-- ==== Sys2Proof/Word.lean ====
section
/-! DEFINITION. The data types the spec's values have: bytes, words, the four-word registers, the key-schedule file and the 16-byte block (00_scope.md R5, R7). -/

namespace Sys2Proof

/-- An unsigned 8-bit value (R7). -/
abbrev Byte := BitVec 8

/-- An unsigned 32-bit value (R7). -/
abbrev Word := BitVec 32

/-- Four 32-bit registers with indexes 0 to 3: the shape of `KEY[0..3]` and `STATE[0..3]` (10_state.md R21, R22). -/
structure Quad where
  w0 : Word
  w1 : Word
  w2 : Word
  w3 : Word
  deriving DecidableEq, Repr

/-- Element `k` of a four-word register array. -/
def Quad.get (q : Quad) (k : Fin 4) : Word :=
  match k with
  | 0 => q.w0
  | 1 => q.w1
  | 2 => q.w2
  | 3 => q.w3

/-- Write `v` to element `k` of a four-word register array. -/
def Quad.set (q : Quad) (k : Fin 4) (v : Word) : Quad :=
  match k with
  | 0 => { q with w0 := v }
  | 1 => { q with w1 := v }
  | 2 => { q with w2 := v }
  | 3 => { q with w3 := v }

/-- Four zero words. -/
def Quad.zero : Quad := ⟨0, 0, 0, 0⟩

/-- The key-schedule file `W[0..43]` (10_state.md R28). -/
abbrev Schedule := Vector Word 44

/-- A 16-byte block or key, byte 0 first (42_state_codec.md R140). -/
abbrev Block := Vector Byte 16

end Sys2Proof
end

