-- ==== Sys2Proof/Machine/Gf.lean ====
section
/-! DEFINITION. The GF(2^8) doubler and the fixed-constant multiplier (40_gf_arith.md). -/

namespace Sys2Proof.Machine

/-- Byte doubling with reduction by 0x1B (R100). -/
def double (b : Byte) : Byte :=
  let t := b <<< 1
  if b.getLsbD 7 then t ^^^ 0x1B#8 else t

/-- Multiplication by 1 (R102). -/
def mul1 (b : Byte) : Byte := b

/-- Multiplication by 2 (R102). -/
def mul2 (b : Byte) : Byte := double b

/-- Multiplication by 3, binary 11 (R102). -/
def mul3 (b : Byte) : Byte := double b ^^^ b

/-- Multiplication by 9, binary 1001 (R102). -/
def mul9 (b : Byte) : Byte := double (double (double b)) ^^^ b

/-- Multiplication by 11, binary 1011 (R102). -/
def mul11 (b : Byte) : Byte := double (double (double b)) ^^^ double b ^^^ b

/-- Multiplication by 13, binary 1101 (R102). -/
def mul13 (b : Byte) : Byte := double (double (double b)) ^^^ double (double b) ^^^ b

/-- Multiplication by 14, binary 1110 (R102). -/
def mul14 (b : Byte) : Byte := double (double (double b)) ^^^ double (double b) ^^^ double b

/-- The constants the multiplier unit supports (R103). -/
def cset : List Byte := [0x01#8, 0x02#8, 0x03#8, 0x09#8, 0x0B#8, 0x0D#8, 0x0E#8]

/-- `mulc(c, b)`, defined for `c` in CSET only (R103, U5; log entry 6). -/
def mulc (c b : Byte) : Option Byte :=
  match c.toNat with
  | 0x01 => some (mul1 b)
  | 0x02 => some (mul2 b)
  | 0x03 => some (mul3 b)
  | 0x09 => some (mul9 b)
  | 0x0B => some (mul11 b)
  | 0x0D => some (mul13 b)
  | 0x0E => some (mul14 b)
  | _ => none

end Sys2Proof.Machine
end

