-- ==== Sys2Proof/Machine/Operands.lean ====
section
/-! DEFINITION. The operand forms: byte and word packing, the state matrix held in `STATE[0..3]`, the block codec and the key packing (42_state_codec.md, 20_memory.md R55). A command's immediates RND and C are pulled out by the decoder; every other operand is a named register (30_encoding.md R71). -/

namespace Sys2Proof.Machine

/-- `pack(b0, b1, b2, b3)`, most significant byte first (R142). -/
def pack (b0 b1 b2 b3 : Byte) : Word :=
  b0.setWidth 32 <<< 24 ||| b1.setWidth 32 <<< 16 ||| b2.setWidth 32 <<< 8 ||| b3.setWidth 32

/-- `byte(w, j) = w[31-8j : 24-8j]`, so byte 0 is the most significant (R142). -/
def byteOf (w : Word) (j : Fin 4) : Byte := w.extractLsb' (24 - 8 * j.val) 8

/-- `S[r][c]` is `byte(STATE[c], r)` (R143). -/
def sByte (S : Quad) (r c : Fin 4) : Byte := byteOf (S.get c) r

/-- Column `c` of a matrix as a word, row 0 in the most significant byte (R143). -/
def packColumn (m : Fin 4 → Fin 4 → Byte) (c : Fin 4) : Word := pack (m 0 c) (m 1 c) (m 2 c) (m 3 c)

/-- The registers that hold the matrix `m`, whose entry `m r c` is `S[r][c]` (R143). -/
def ofMatrix (m : Fin 4 → Fin 4 → Byte) : Quad :=
  ⟨packColumn m 0, packColumn m 1, packColumn m 2, packColumn m 3⟩

/-- `decode(block)`: byte `i` goes to row `i mod 4`, column `i div 4`, so `S[r][c]` is byte `4c + r` (R140). -/
def blockToState (b : Block) : Quad := ofMatrix fun r c => b[4 * c.val + r.val]

/-- `encode(S)`: byte `i` is `S[i mod 4][i div 4]` (R141). -/
def stateToBlock (S : Quad) : Block :=
  Vector.ofFn fun i => sByte S ⟨i.val % 4, by omega⟩ ⟨i.val / 4, by omega⟩

/-- The key registers of a 16-byte key: `KEY[k] = pack(key[4k], key[4k+1], key[4k+2], key[4k+3])` (R144). -/
def keyRegisters (key : Block) : Quad :=
  ⟨pack key[0] key[1] key[2] key[3], pack key[4] key[5] key[6] key[7],
    pack key[8] key[9] key[10] key[11], pack key[12] key[13] key[14] key[15]⟩

end Sys2Proof.Machine
end

