-- ==== Sys2Proof/Machine/Round.lean ====
section
/-! DEFINITION. The seven state operations as functions of the state matrix (44_round_transforms.md section 1). -/

namespace Sys2Proof.Machine

/-- `AddRoundKey(S, r)` with the schedule `w` (R170). -/
def addRoundKey (w : Schedule) (r : Fin 11) (S : Quad) : Quad :=
  ofMatrix fun row c => sByte S row c ^^^ byteOf w[4 * r.val + c.val] row

/-- `SubBytes(S)` (R171). -/
def subBytes (S : Quad) : Quad := ofMatrix fun r c => sbox (sByte S r c)

/-- `InvSubBytes(S)` (R172). -/
def invSubBytes (S : Quad) : Quad := ofMatrix fun r c => invSbox (sByte S r c)

/-- `ShiftRows(S)`: row `r` rotated left by `r` positions (R173). -/
def shiftRows (S : Quad) : Quad := ofMatrix fun r c => sByte S r ⟨(c.val + r.val) % 4, by omega⟩

/-- `InvShiftRows(S)`: row `r` rotated right by `r` positions (R174). -/
def invShiftRows (S : Quad) : Quad :=
  ofMatrix fun r c => sByte S r ⟨(c.val + 4 - r.val) % 4, by omega⟩

/-- One column of MixColumns, row 0 first (R175). -/
def mixColumn (a0 a1 a2 a3 : Byte) (r : Fin 4) : Byte :=
  match r with
  | 0 => mul2 a0 ^^^ mul3 a1 ^^^ a2 ^^^ a3
  | 1 => a0 ^^^ mul2 a1 ^^^ mul3 a2 ^^^ a3
  | 2 => a0 ^^^ a1 ^^^ mul2 a2 ^^^ mul3 a3
  | 3 => mul3 a0 ^^^ a1 ^^^ a2 ^^^ mul2 a3

/-- One column of InvMixColumns, row 0 first; each row of the matrix is the one above it rotated right (R176). -/
def invMixColumn (a0 a1 a2 a3 : Byte) (r : Fin 4) : Byte :=
  match r with
  | 0 => mul14 a0 ^^^ mul11 a1 ^^^ mul13 a2 ^^^ mul9 a3
  | 1 => mul9 a0 ^^^ mul14 a1 ^^^ mul11 a2 ^^^ mul13 a3
  | 2 => mul13 a0 ^^^ mul9 a1 ^^^ mul14 a2 ^^^ mul11 a3
  | 3 => mul11 a0 ^^^ mul13 a1 ^^^ mul9 a2 ^^^ mul14 a3

/-- `MixColumns(S)` (R175). -/
def mixColumns (S : Quad) : Quad :=
  ofMatrix fun r c => mixColumn (sByte S 0 c) (sByte S 1 c) (sByte S 2 c) (sByte S 3 c) r

/-- `InvMixColumns(S)` (R176). -/
def invMixColumns (S : Quad) : Quad :=
  ofMatrix fun r c => invMixColumn (sByte S 0 c) (sByte S 1 c) (sByte S 2 c) (sByte S 3 c) r

end Sys2Proof.Machine
end

