-- ==== Sys2Proof/Machine/Cipher.lean ====
section
/-! DEFINITION. The stages of the controller and the two block functions (45_controller.md section 1). -/

namespace Sys2Proof.Machine

/-- `EncStage(r, S)` (R200). -/
def encStage (w : Schedule) (r : Fin 11) (S : Quad) : Quad :=
  if r.val = 0 then addRoundKey w r S
  else if r.val ≤ 9 then addRoundKey w r (mixColumns (shiftRows (subBytes S)))
  else addRoundKey w r (shiftRows (subBytes S))

/-- `DecStage(r, S)` (R201). -/
def decStage (w : Schedule) (r : Fin 11) (S : Quad) : Quad :=
  if r.val = 10 then addRoundKey w r S
  else if 1 ≤ r.val then invMixColumns (addRoundKey w r (invSubBytes (invShiftRows S)))
  else addRoundKey w r (invSubBytes (invShiftRows S))

/-- The round indexes 0 to 10, upward (R202). -/
def roundsUp : List (Fin 11) := [0, 1, 2, 3, 4, 5, 6, 7, 8, 9, 10]

/-- The round indexes 10 to 0, downward (R203). -/
def roundsDown : List (Fin 11) := [10, 9, 8, 7, 6, 5, 4, 3, 2, 1, 0]

/-- The stages of `encryptBlock` on the state matrix (R202). -/
def encryptState (w : Schedule) (S : Quad) : Quad := roundsUp.foldl (fun T r => encStage w r T) S

/-- The stages of `decryptBlock` on the state matrix (R203). -/
def decryptState (w : Schedule) (S : Quad) : Quad := roundsDown.foldl (fun T r => decStage w r T) S

/-- `encryptBlock(block, W)` (R202). -/
def encryptBlock (b : Block) (w : Schedule) : Block := stateToBlock (encryptState w (blockToState b))

/-- `decryptBlock(block, W)` (R203). -/
def decryptBlock (b : Block) (w : Schedule) : Block := stateToBlock (decryptState w (blockToState b))

end Sys2Proof.Machine
end

