-- ==== Sys2Proof/Syntax.lean ====
section
/-! DEFINITION. The 14 commands of 30_encoding.md R72, one constructor per row of the opcode table. -/

namespace Sys2Proof

/-- A command with its immediate operand, if it has one. Every other operand is a named register (R71). -/
inductive Instr where
  | nop
  | keyExpand
  | encrypt
  | decrypt
  | subBytes
  | invSubBytes
  | shiftRows
  | invShiftRows
  | mixColumns
  | invMixColumns
  /-- The field RND, the round index (44_round_transforms.md R184). -/
  | addRoundKey (rnd : BitVec 4)
  | sbox
  | invSbox
  /-- The field C, a constant of GF(2^8) (40_gf_arith.md R107). -/
  | gfMulc (c : Byte)
  deriving DecidableEq, Repr

end Sys2Proof
end

