-- ==== Sys2Proof/WellFormed.lean ====
section
/-! DEFINITION. Which command terms have an encoding: the operand ranges of 30_encoding.md R71. -/

namespace Sys2Proof

/-- The operand of a command is in the range R71 gives it: a round index 0 to 10, a constant in CSET. -/
def Instr.wellFormed (i : Instr) : Bool :=
  match i with
  | .nop => true
  | .keyExpand => true
  | .encrypt => true
  | .decrypt => true
  | .subBytes => true
  | .invSubBytes => true
  | .shiftRows => true
  | .invShiftRows => true
  | .mixColumns => true
  | .invMixColumns => true
  | .addRoundKey rnd => decide (rnd.toNat ≤ 10)
  | .sbox => true
  | .invSbox => true
  | .gfMulc c => Machine.cset.contains c

end Sys2Proof
end

