-- ==== Sys2Proof/Decode.lean ====
section
/-! DEFINITION. Decoding a command word, rejecting an illegal one by the class of 30_encoding.md R74 it falls in, and after it the encoder (R76). -/

namespace Sys2Proof

/-- The classes of illegal command words (R74), each with the check of R73 that fails. -/
inductive Illegal where
  /-- RSVD is not 0. -/
  | rsvdNonzero
  /-- The opcode is 0xE or 0xF. -/
  | reservedOpcode
  /-- RND is 11 to 15 in ADD_ROUND_KEY. -/
  | rndTooLarge
  /-- RND is not 0 in another command. -/
  | rndNonzero
  /-- C is outside CSET in GF_MULC. -/
  | constantUnsupported
  /-- C is not 0 in another command. -/
  | constantNonzero
  deriving DecidableEq, Repr

/-- `OP = cmd[3:0]` (R71). -/
def fieldOp (v : Word) : BitVec 4 := v.extractLsb' 0 4

/-- `RND = cmd[7:4]` (R71). -/
def fieldRnd (v : Word) : BitVec 4 := v.extractLsb' 4 4

/-- `C = cmd[15:8]` (R71). -/
def fieldC (v : Word) : Byte := v.extractLsb' 8 8

/-- `RSVD = cmd[31:16]` (R71). -/
def fieldRsvd (v : Word) : BitVec 16 := v.extractLsb' 16 16

/-- The first check of R73, in its order, that the word fails. -/
def illegalClass (v : Word) : Option Illegal :=
  if fieldRsvd v ≠ 0 then some .rsvdNonzero
  else if fieldOp v = 0xE#4 ∨ fieldOp v = 0xF#4 then some .reservedOpcode
  else if fieldOp v = 0xA#4 ∧ 10 < (fieldRnd v).toNat then some .rndTooLarge
  else if fieldOp v ≠ 0xA#4 ∧ fieldRnd v ≠ 0 then some .rndNonzero
  else if fieldOp v = 0xD#4 ∧ ¬ Machine.cset.contains (fieldC v) then some .constantUnsupported
  else if fieldOp v ≠ 0xD#4 ∧ fieldC v ≠ 0 then some .constantNonzero
  else none

/-- The command a legal word stands for, by the opcode map (R72); an illegal word is refused by its class. -/
def decode (v : Word) : Except Illegal Instr :=
  match illegalClass v with
  | some e => .error e
  | none =>
    match (fieldOp v).toNat with
    | 0x0 => .ok .nop
    | 0x1 => .ok .keyExpand
    | 0x2 => .ok .encrypt
    | 0x3 => .ok .decrypt
    | 0x4 => .ok .subBytes
    | 0x5 => .ok .invSubBytes
    | 0x6 => .ok .shiftRows
    | 0x7 => .ok .invShiftRows
    | 0x8 => .ok .mixColumns
    | 0x9 => .ok .invMixColumns
    | 0xA => .ok (.addRoundKey (fieldRnd v))
    | 0xB => .ok .sbox
    | 0xC => .ok .invSbox
    | 0xD => .ok (.gfMulc (fieldC v))
    | _ => .error .reservedOpcode

/-- The word's instruction as the opcode table numbers its bits; a command is exactly one 32-bit word (R75). -/
def decodeTableWord (nbits w : Nat) : Option Instr :=
  if nbits ≤ 32 ∧ w < 2 ^ nbits then
    match decode (BitVec.ofNat 32 w) with
    | .ok i => some i
    | .error _ => none
  else none

/-- The opcode of a command (R72). -/
def Instr.opcode (i : Instr) : BitVec 4 :=
  match i with
  | .nop => 0x0#4
  | .keyExpand => 0x1#4
  | .encrypt => 0x2#4
  | .decrypt => 0x3#4
  | .subBytes => 0x4#4
  | .invSubBytes => 0x5#4
  | .shiftRows => 0x6#4
  | .invShiftRows => 0x7#4
  | .mixColumns => 0x8#4
  | .invMixColumns => 0x9#4
  | .addRoundKey _ => 0xA#4
  | .sbox => 0xB#4
  | .invSbox => 0xC#4
  | .gfMulc _ => 0xD#4

/-- The RND field of a command: its round index in ADD_ROUND_KEY, 0 in every other (R70). -/
def Instr.rnd (i : Instr) : BitVec 4 :=
  match i with
  | .nop => 0
  | .keyExpand => 0
  | .encrypt => 0
  | .decrypt => 0
  | .subBytes => 0
  | .invSubBytes => 0
  | .shiftRows => 0
  | .invShiftRows => 0
  | .mixColumns => 0
  | .invMixColumns => 0
  | .addRoundKey rnd => rnd
  | .sbox => 0
  | .invSbox => 0
  | .gfMulc _ => 0

/-- The C field of a command: its constant in GF_MULC, 0 in every other (R70). -/
def Instr.constant (i : Instr) : Byte :=
  match i with
  | .nop => 0
  | .keyExpand => 0
  | .encrypt => 0
  | .decrypt => 0
  | .subBytes => 0
  | .invSubBytes => 0
  | .shiftRows => 0
  | .invShiftRows => 0
  | .mixColumns => 0
  | .invMixColumns => 0
  | .addRoundKey _ => 0
  | .sbox => 0
  | .invSbox => 0
  | .gfMulc c => c

/-- `enc(OP, RND, C) = (C << 8) | (RND << 4) | OP` (R76). -/
def enc (op rnd : BitVec 4) (c : Byte) : Word :=
  c.setWidth 32 <<< 8 ||| rnd.setWidth 32 <<< 4 ||| op.setWidth 32

/-- The command word of a command (R76). -/
def encode (i : Instr) : Word := enc i.opcode i.rnd i.constant

end Sys2Proof
end

