-- ==== Sys2Proof/Config.lean ====
section
/-! DEFINITION. What the spec leaves open: the contents of W after a reset and the two platform parameters. The opaque constants have no body, so no proof can depend on a value of theirs. -/

namespace Sys2Proof

/-- The word `W[i]` holds after the `n`-th reset: 93_implementation_defined.md U1 says "any value".
A free value, log entry 4. -/
opaque Config.unspecifiedW : Nat → Nat → BitVec 32

/-- Which 4 KiB page of the platform's address space the window occupies (U9, D6). A free value, log entry 11. -/
opaque Config.aesBasePage : Nat

/-- How many cycles beyond the first `rst` is held at power-on (U10, D29). A free value, log entry 11. -/
opaque Config.rstExtraCycles : Nat

/-- `AES_BASE`: any multiple of 0x1000 (92_eei_decisions.md, named parameters). No rule depends on it. -/
def Config.aesBase : Nat := 0x1000 * Config.aesBasePage

/-- `RST_CYCLES`: any integer of at least 1 (92_eei_decisions.md, named parameters). -/
def Config.rstCycles : Nat := Config.rstExtraCycles + 1

end Sys2Proof
end

