-- ==== Sys2Proof/Machine/State.lean ====
section
/-! DEFINITION. The state of one core (10_state.md R20), the host's bus cycles, the reasons a step can stop, and the state after reset (R33). -/

namespace Sys2Proof.Machine

/-- The input pins of one clock cycle (20_memory.md R53). `addr` is `off[11:2]`. -/
structure BusCycle where
  rst : Bool
  valid : Bool
  write : Bool
  addr : BitVec 10
  wdata : Word
  deriving DecidableEq, Repr

/-- What the host does in one cycle (R53, R62): nothing, a read, or a write, at a word offset. -/
inductive HostAccess where
  | idle
  | read (off : BitVec 10)
  | write (off : BitVec 10) (v : Word)
  deriving DecidableEq, Repr

/-- What stands at a word offset of the register window (R52). -/
inductive Register where
  | cmd
  | status
  | errinfo
  | errcmd
  | byteIo
  | key (k : Fin 4)
  | state (c : Fin 4)
  | w (i : Fin 44)
  /-- A reserved offset: reads 0, ignores writes (U7). -/
  | reserved
  deriving DecidableEq, Repr

/-- The causes of a rejected host write (60_exceptions.md R231 to R233). -/
inductive Rejection where
  | errBusy
  | errIllegal
  | errNoKey
  deriving DecidableEq, Repr

/-- The state of one core. The first block of fields is R20's list; the last three are the model's own. -/
structure State where
  /-- `KEY[0..3]` (R22). -/
  key : Quad
  /-- `STATE[0..3]` (R21). -/
  state : Quad
  /-- `BYTE_IO.OPERAND` (R23). -/
  operand : Byte
  /-- `BYTE_IO.RESULT` (R23). -/
  result : Byte
  /-- `W[0..43]` (R28). -/
  w : Schedule
  /-- `STATUS.BUSY` (R25, R29). -/
  busy : Bool
  /-- `STATUS.DONE` (R25). -/
  done : Bool
  /-- `STATUS.KEY_VALID` (R25, 43_key_schedule.md R158). -/
  keyValid : Bool
  /-- `STATUS.ERR_BUSY` (R25). -/
  errBusy : Bool
  /-- `STATUS.ERR_ILLEGAL` (R25). -/
  errIllegal : Bool
  /-- `STATUS.ERR_NOKEY` (R25). -/
  errNoKey : Bool
  /-- `ROUND` (R29). -/
  round : BitVec 4
  /-- `WIDX` (R29). -/
  widx : BitVec 6
  /-- `OPCUR` (R29). -/
  opcur : BitVec 4
  /-- The hidden latch `MULC_C` (R30). -/
  mulcC : Byte
  /-- `ERRINFO.CAUSE` (R26). -/
  errCause : BitVec 2
  /-- `ERRINFO.OFFSET` (R26). -/
  errOffset : BitVec 10
  /-- `ERRCMD` (R27). -/
  errCmd : Word
  /-- DESIGN CHOICE (log entry 2). The bus cycles still to come, oldest first; an exhausted list is an idle bus. -/
  port : List BusCycle
  /-- DESIGN CHOICE (log entry 3). The value `bus_rdata` carried in the last cycle (R53). -/
  rdata : Word
  /-- DESIGN CHOICE (log entry 4). How many times W has been drawn. -/
  draws : Nat
  deriving DecidableEq, Repr

/-- Why the machine stops. Every one is a controller position that the rules never reach (log entries 5 and 6):
stopping there is safe, since the hardware has no behaviour there for a claim to be false of. -/
inductive Fault where
  /-- Raised by the controller's step: OPCUR is 0x0, 0xE or 0xF while BUSY is 1 (45_controller.md R206, U4). Safe. -/
  | opcurImpossible
  /-- Raised by the steps of ENCRYPT, DECRYPT and ADD_ROUND_KEY: ROUND is above 10 (R29). Safe. -/
  | roundImpossible
  /-- Raised by the step of KEY_EXPAND: WIDX is outside 4 to 43 (R29, R157). Safe. -/
  | widxImpossible
  /-- Raised by the step of GF_MULC: MULC_C is outside CSET, where `mulc` is not defined (R103, U5). Safe. -/
  | constantImpossible
  deriving DecidableEq, Repr

/-- Why an instruction has no meaning. -/
inductive Refusal where
  /-- Raised by `exec`'s arm of an instruction that is not modelled yet; no arm raises it now. Safe. -/
  | notModelled (mnemonic : String)
  deriving DecidableEq, Repr

/-- The unspecified contents of `W[0..43]` after the `n`-th reset (R33, U1): one free value a word (log entry 4). -/
def drawW (n : Nat) : Schedule := Vector.ofFn fun i => Config.unspecifiedW n i.val

/-- The state right after reset (R33, 70_reset_and_hazards.md R260), with no host access yet to come. -/
def State.reset : State where
  key := Quad.zero
  state := Quad.zero
  operand := 0
  result := 0
  w := drawW 0
  busy := false
  done := false
  keyValid := false
  errBusy := false
  errIllegal := false
  errNoKey := false
  round := 0
  widx := 0
  opcur := 0
  mulcC := 0
  errCause := 0
  errOffset := 0
  errCmd := 0
  port := []
  rdata := 0
  draws := 1

end Sys2Proof.Machine
end

