-- ==== Sys2Proof/Machine/Flags.lean ====
section
/-! DEFINITION. The STATUS, ERRINFO and BYTE_IO words a read packs, and every rule that writes a STATUS flag outside a command's own step (10_state.md R25, R34). -/

namespace Sys2Proof.Machine

/-- The STATUS word, reserved bits 0 (R25, 20_memory.md R57). -/
def statusWord (s : State) : Word :=
  0#4 ++ s.opcur ++ 0#2 ++ s.widx ++ 0#4 ++ s.round ++ 0#1 ++
    BitVec.ofBool s.errNoKey ++ BitVec.ofBool s.errIllegal ++ BitVec.ofBool s.errBusy ++ 0#1 ++
    BitVec.ofBool s.keyValid ++ BitVec.ofBool s.done ++ BitVec.ofBool s.busy

/-- The ERRINFO word, reserved bits 0 (R26). -/
def errinfoWord (s : State) : Word := (s.errOffset ++ s.errCause).setWidth 32

/-- The BYTE_IO word, reserved bits 0 (R23). -/
def byteIoWord (s : State) : Word := (s.result ++ s.operand).setWidth 32

/-- The cause code of a rejection (60_exceptions.md R230). -/
def Rejection.code (e : Rejection) : BitVec 2 :=
  match e with
  | .errBusy => 1
  | .errIllegal => 2
  | .errNoKey => 3

/-- `Accept(v)` without the per-command part: BUSY, DONE and OPCUR (45_controller.md R205). -/
def accept (op : BitVec 4) (s : State) : State := { s with busy := true, done := false, opcur := op }

/-- `finish()` (45_controller.md R207). -/
def finish (s : State) : State := { s with busy := false, done := true }

/-- `ClearErrors(v)`: write one to clear on STATUS bits 6:4 (60_exceptions.md R235). -/
def clearErrors (v : Word) (s : State) : State :=
  { s with
    errBusy := s.errBusy && !v.getLsbD 4
    errIllegal := s.errIllegal && !v.getLsbD 5
    errNoKey := s.errNoKey && !v.getLsbD 6 }

end Sys2Proof.Machine
end

