-- ==== Sys2Proof/Machine/KeySchedule.lean ====
section
/-! DEFINITION. The key-schedule expander's functions (43_key_schedule.md section 1). -/

namespace Sys2Proof.Machine

/-- Rotate the four bytes left by one byte position (R150). -/
def rotWord (t : Word) : Word := t <<< 8 ||| t >>> 24

/-- The forward S-box on each byte (R151). -/
def subWord (t : Word) : Word :=
  pack (sbox (byteOf t 0)) (sbox (byteOf t 1)) (sbox (byteOf t 2)) (sbox (byteOf t 3))

/-- XOR the most significant byte with `RCON[j]` (R152). -/
def rconXor (t : Word) (j : Fin 10) : Word := t ^^^ (rcon j).setWidth 32 <<< 24

/-- `W[0..3]` loaded with the key words (R153, R157). -/
def loadKey (K : Quad) (w : Schedule) : Schedule :=
  (((w.set 0 K.w0).set 1 K.w1).set 2 K.w2).set 3 K.w3

/-- The word the loop body of R153 computes for index `i`. -/
def nextWord (w : Schedule) (i : Nat) (h : 4 ≤ i ∧ i < 44) : Word :=
  let temp := w[i - 1]
  w[i - 4] ^^^
    (if i % 4 = 0 then rconXor (subWord (rotWord temp)) ⟨i / 4 - 1, by omega⟩ else temp)

/-- The loop body of R153 for index `i`. -/
def expandWord (w : Schedule) (i : Nat) (h : 4 ≤ i ∧ i < 44) : Schedule := w.set i (nextWord w i h)

/-- The first `n` turns of the loop of R153, for the indexes 4 to `n + 3`; the loop has 40. -/
def expandLoop (w : Schedule) : Nat → Schedule
  | 0 => w
  | n + 1 => if h : n < 40 then expandWord (expandLoop w n) (n + 4) (by omega) else expandLoop w n

/-- `expandKey(K)` (R153). The zero words the load starts from are all overwritten before they are read (log entry 15). -/
def expandKey (K : Quad) : Schedule := expandLoop (loadKey K (Vector.replicate 44 0)) 40

end Sys2Proof.Machine
end

