-- ==== Sys2Proof/Machine/Ops.lean ====
section
/-! DEFINITION. The shared operations on the state: the register writes of the commands, rejecting a host write (60_exceptions.md R230), issuing a command (45_controller.md R205), the address map (20_memory.md R52), the host's register writes and the reset cycle. -/

namespace Sys2Proof.Machine

/-- Go on from a next state; a fault or a refusal stands. -/
def andThen (o : Host.Outcome State Fault Refusal) (f : State → Host.Outcome State Fault Refusal) :
    Host.Outcome State Fault Refusal :=
  match o with
  | .next s => f s
  | .fault r => .fault r
  | .refused r => .refused r

/-- Replace the whole state matrix in one event (42_state_codec.md R143). -/
def putState (S : Quad) (s : State) : State := { s with state := S }

/-- `BYTE_IO.RESULT <- b` (10_state.md R23). -/
def putResult (b : Byte) (s : State) : State := { s with result := b }

/-- `ROUND <- r` (10_state.md R29). -/
def putRound (r : BitVec 4) (s : State) : State := { s with round := r }

/-- `MULC_C <- c` (10_state.md R30). -/
def putMulc (c : Byte) (s : State) : State := { s with mulcC := c }

/-- The acceptance part of KEY_EXPAND (43_key_schedule.md R157). -/
def startExpansion (s : State) : State :=
  { s with w := loadKey s.key s.w, widx := 4, keyValid := false }

/-- A KEY_EXPAND step's word and counter: `W[i]` and `WIDX <- i + 1` (43_key_schedule.md R157). -/
def putScheduleWord (i : Nat) (h : 4 ≤ i ∧ i < 44) (s : State) : State :=
  { s with w := expandWord s.w i h, widx := BitVec.ofNat 6 (i + 1) }

/-- The end of an expansion: `KEY_VALID <- 1` (43_key_schedule.md R157, R158). -/
def validateKey (s : State) : State := { s with keyValid := true }

/-- `raise E(off, v)`: what taking an error does, and all it does (60_exceptions.md R230). There is no trap entry
and no trap return in this core (R238, R239); the error bits are cleared by `clearErrors` (R235). -/
def raise (e : Rejection) (off : BitVec 10) (v : Word) (s : State) : State :=
  { s with
    errBusy := s.errBusy || decide (e = .errBusy)
    errIllegal := s.errIllegal || decide (e = .errIllegal)
    errNoKey := s.errNoKey || decide (e = .errNoKey)
    errCause := e.code
    errOffset := off
    errCmd := v }

/-- A legal word that uses the key schedule: ENCRYPT, DECRYPT or ADD_ROUND_KEY (45_controller.md R205). -/
def needsSchedule (v : Word) : Bool :=
  decide (fieldOp v = 0x2#4 ∨ fieldOp v = 0x3#4 ∨ fieldOp v = 0xA#4)

/-- The first check a CMD write fails: busy, then illegal, then no key (45_controller.md R205, 60_exceptions.md R234). -/
def commandCheck (v : Word) (s : State) : Option Rejection :=
  if s.busy then some .errBusy
  else if (illegalClass v).isSome then some .errIllegal
  else if needsSchedule v && !s.keyValid then some .errNoKey
  else none

/-- A host write of the command word `v` to CMD: rejected by the first check it fails, or carried out by `act`
(45_controller.md R205). Every command's meaning is this with its own word and its own acceptance. -/
def issue (v : Word) (act : State → State) (s : State) : Host.Outcome State Fault Refusal :=
  match commandCheck v s with
  | some e => .next (raise e 0 v s)
  | none => .next (act s)

/-- The round index the controller is at, where it is one (10_state.md R29). -/
def roundIndex (s : State) : Option (Fin 11) :=
  if h : s.round.toNat < 11 then some ⟨s.round.toNat, h⟩ else none

/-- What stands at word offset `off`, that is at byte offset `4 * off` (20_memory.md R52). -/
def registerAt (off : BitVec 10) : Register :=
  let a := 4 * off.toNat
  if a = 0x000 then .cmd
  else if a = 0x004 then .status
  else if a = 0x008 then .errinfo
  else if a = 0x00C then .errcmd
  else if a = 0x010 then .byteIo
  else if h : 0x020 ≤ a ∧ a ≤ 0x02C then .key ⟨(a - 0x020) / 4, by omega⟩
  else if h : 0x030 ≤ a ∧ a ≤ 0x03C then .state ⟨(a - 0x030) / 4, by omega⟩
  else if h : 0x100 ≤ a ∧ a ≤ 0x1AC then .w ⟨(a - 0x100) / 4, by omega⟩
  else .reserved

/-- The value a host read returns (20_memory.md R57). -/
def readRegister (r : Register) (s : State) : Word :=
  match r with
  | .cmd => 0
  | .status => statusWord s
  | .errinfo => errinfoWord s
  | .errcmd => s.errCmd
  | .byteIo => byteIoWord s
  | .key k => s.key.get k
  | .state c => s.state.get c
  | .w i => s.w[i]
  | .reserved => 0

/-- `MemRead(off, 4)` (20_memory.md R57). -/
def memRead (off : BitVec 10) (s : State) : Word := readRegister (registerAt off) s

/-- A host write to a register the controller may be using: rejected with ERR_BUSY while BUSY is 1, else carried out
(20_memory.md R58, 60_exceptions.md R231). -/
def guardedWrite (off : BitVec 10) (v : Word) (act : State → State) (s : State) : State :=
  if s.busy then raise .errBusy off v s else act s

/-- `BYTE_IO.OPERAND <- v[7:0]` (10_state.md R23). -/
def putOperand (v : Word) (s : State) : State := { s with operand := v.extractLsb' 0 8 }

/-- `KEY[k] <- v; KEY_VALID <- 0` (20_memory.md R58, 43_key_schedule.md R158). -/
def putKeyWord (k : Fin 4) (v : Word) (s : State) : State :=
  { s with key := s.key.set k v, keyValid := false }

/-- `STATE[c] <- v` (20_memory.md R58). -/
def putStateWord (c : Fin 4) (v : Word) (s : State) : State := { s with state := s.state.set c v }

/-- The bus cycle with no access and no reset (20_memory.md R53). -/
def idleCycle : BusCycle := ⟨false, false, false, 0, 0⟩

/-- The bus cycle of a host read. -/
def readCycle (off : BitVec 10) : BusCycle := ⟨false, true, false, off, 0⟩

/-- The bus cycle of a host write. -/
def writeCycle (off : BitVec 10) (v : Word) : BusCycle := ⟨false, true, true, off, v⟩

/-- The access the pins carry; `bus_write` is ignored where `bus_valid` is 0 (20_memory.md R53). -/
def BusCycle.access (p : BusCycle) : HostAccess :=
  if p.valid then (if p.write then .write p.addr p.wdata else .read p.addr) else .idle

/-- The pins of the coming cycle; an exhausted list is an idle bus (log entry 2). -/
def State.pins (s : State) : BusCycle := s.port.headD idleCycle

/-- `bus_rdata` of a cycle: the read value taken from the state at its start, 0 in every other cycle (R53, R62). -/
def busReadData (p : BusCycle) (s : State) : Word :=
  match p.access with
  | .idle => 0
  | .read off => memRead off s
  | .write _ _ => 0

/-- Use up the pins of one cycle and put `rd` on `bus_rdata`. -/
def tick (rd : Word) (s : State) : State := { s with port := s.port.tail, rdata := rd }

/-- `Reset(s)`: every element at its reset value, W drawn anew, the access in the cycle ignored
(70_reset_and_hazards.md R260; log entry 4). -/
def resetCycle (s : State) : State :=
  { State.reset with w := drawW s.draws, draws := s.draws + 1, port := s.port.tail }

end Sys2Proof.Machine
end

