-- ==== Sys2Proof/Machine/BlockCommands.lean ====
section
/-! DEFINITION. NOP, KEY_EXPAND, ENCRYPT and DECRYPT: the CMD write and the controller's step of each (45_controller.md section 3, 43_key_schedule.md section 2). -/

namespace Sys2Proof.Machine

/-- A CMD write of NOP: accepted without any effect (R211). It has no step. -/
def execNop (s : State) : Host.Outcome State Fault Refusal :=
  issue (encode .nop) (fun t => t) s

/-- A CMD write of KEY_EXPAND (R157). -/
def execKeyExpand (s : State) : Host.Outcome State Fault Refusal :=
  issue (encode .keyExpand) (fun t => startExpansion (accept 0x1#4 t)) s

/-- `Step[KEY_EXPAND]` (R157). A WIDX outside 4 to 43, which no run reaches, is a fault (R29, log entry 5). -/
def stepKeyExpand (s : State) : Host.Outcome State Fault Refusal :=
  if h : 4 ≤ s.widx.toNat ∧ s.widx.toNat < 44 then
    let t := putScheduleWord s.widx.toNat h s
    if s.widx.toNat = 43 then .next (finish (validateKey t)) else .next t
  else .fault .widxImpossible

/-- A CMD write of ENCRYPT (R209). -/
def execEncrypt (s : State) : Host.Outcome State Fault Refusal :=
  issue (encode .encrypt) (fun t => putRound 0 (accept 0x2#4 t)) s

/-- `Step[ENCRYPT]` (R209). A round above 10, which no run reaches, is a fault (R29, log entry 5). -/
def stepEncrypt (s : State) : Host.Outcome State Fault Refusal :=
  match roundIndex s with
  | some r =>
    let t := putState (encStage s.w r s.state) s
    if r.val = 10 then .next (finish t) else .next (putRound (s.round + 1) t)
  | none => .fault .roundImpossible

/-- A CMD write of DECRYPT (R210). -/
def execDecrypt (s : State) : Host.Outcome State Fault Refusal :=
  issue (encode .decrypt) (fun t => putRound 10 (accept 0x3#4 t)) s

/-- `Step[DECRYPT]` (R210). A round above 10, which no run reaches, is a fault (R29, log entry 5). -/
def stepDecrypt (s : State) : Host.Outcome State Fault Refusal :=
  match roundIndex s with
  | some r =>
    let t := putState (decStage s.w r s.state) s
    if r.val = 0 then .next (finish t) else .next (putRound (s.round - 1) t)
  | none => .fault .roundImpossible

end Sys2Proof.Machine
end

