-- ==== Sys2Proof/Machine/ByteCommands.lean ====
section
/-! DEFINITION. The byte-wide commands SBOX, INV_SBOX and GF_MULC: the CMD write and the controller's step of each (41_tables.md R124, R125; 40_gf_arith.md R107). -/

namespace Sys2Proof.Machine

/-- A CMD write of SBOX (R124). -/
def execSbox (s : State) : Host.Outcome State Fault Refusal :=
  issue (encode .sbox) (accept 0xB#4) s

/-- `Step[SBOX]` (R124). -/
def stepSbox (s : State) : Host.Outcome State Fault Refusal :=
  .next (finish (putResult (sbox s.operand) s))

/-- A CMD write of INV_SBOX (R125). -/
def execInvSbox (s : State) : Host.Outcome State Fault Refusal :=
  issue (encode .invSbox) (accept 0xC#4) s

/-- `Step[INV_SBOX]` (R125). -/
def stepInvSbox (s : State) : Host.Outcome State Fault Refusal :=
  .next (finish (putResult (invSbox s.operand) s))

/-- A CMD write of GF_MULC with the constant `c` (R107). -/
def execGfMulc (c : Byte) (s : State) : Host.Outcome State Fault Refusal :=
  issue (encode (.gfMulc c)) (fun t => putMulc c (accept 0xD#4 t)) s

/-- `Step[GF_MULC]` (R107). A latch outside CSET, which no run reaches, is a fault (U5, log entry 6). -/
def stepGfMulc (s : State) : Host.Outcome State Fault Refusal :=
  match mulc s.mulcC s.operand with
  | some b => .next (finish (putResult b s))
  | none => .fault .constantImpossible

end Sys2Proof.Machine
end

