-- ==== Sys2Proof/Machine/StageCommands.lean ====
section
/-! DEFINITION. The seven single-stage commands on STATE: the CMD write and the controller's step of each (44_round_transforms.md section 2). -/

namespace Sys2Proof.Machine

/-- A CMD write of SUB_BYTES (R178). -/
def execSubBytes (s : State) : Host.Outcome State Fault Refusal :=
  issue (encode .subBytes) (accept 0x4#4) s

/-- `Step[SUB_BYTES]` (R178). -/
def stepSubBytes (s : State) : Host.Outcome State Fault Refusal :=
  .next (finish (putState (subBytes s.state) s))

/-- A CMD write of INV_SUB_BYTES (R179). -/
def execInvSubBytes (s : State) : Host.Outcome State Fault Refusal :=
  issue (encode .invSubBytes) (accept 0x5#4) s

/-- `Step[INV_SUB_BYTES]` (R179). -/
def stepInvSubBytes (s : State) : Host.Outcome State Fault Refusal :=
  .next (finish (putState (invSubBytes s.state) s))

/-- A CMD write of SHIFT_ROWS (R180). -/
def execShiftRows (s : State) : Host.Outcome State Fault Refusal :=
  issue (encode .shiftRows) (accept 0x6#4) s

/-- `Step[SHIFT_ROWS]` (R180). -/
def stepShiftRows (s : State) : Host.Outcome State Fault Refusal :=
  .next (finish (putState (shiftRows s.state) s))

/-- A CMD write of INV_SHIFT_ROWS (R181). -/
def execInvShiftRows (s : State) : Host.Outcome State Fault Refusal :=
  issue (encode .invShiftRows) (accept 0x7#4) s

/-- `Step[INV_SHIFT_ROWS]` (R181). -/
def stepInvShiftRows (s : State) : Host.Outcome State Fault Refusal :=
  .next (finish (putState (invShiftRows s.state) s))

/-- A CMD write of MIX_COLUMNS (R182). -/
def execMixColumns (s : State) : Host.Outcome State Fault Refusal :=
  issue (encode .mixColumns) (accept 0x8#4) s

/-- `Step[MIX_COLUMNS]` (R182). -/
def stepMixColumns (s : State) : Host.Outcome State Fault Refusal :=
  .next (finish (putState (mixColumns s.state) s))

/-- A CMD write of INV_MIX_COLUMNS (R183). -/
def execInvMixColumns (s : State) : Host.Outcome State Fault Refusal :=
  issue (encode .invMixColumns) (accept 0x9#4) s

/-- `Step[INV_MIX_COLUMNS]` (R183). -/
def stepInvMixColumns (s : State) : Host.Outcome State Fault Refusal :=
  .next (finish (putState (invMixColumns s.state) s))

/-- A CMD write of ADD_ROUND_KEY with round `rnd` (R184). -/
def execAddRoundKey (rnd : BitVec 4) (s : State) : Host.Outcome State Fault Refusal :=
  issue (encode (.addRoundKey rnd)) (fun t => putRound rnd (accept 0xA#4 t)) s

/-- `Step[ADD_ROUND_KEY]` (R184). A round above 10, which no run reaches, is a fault (R29, log entry 5). -/
def stepAddRoundKey (s : State) : Host.Outcome State Fault Refusal :=
  match roundIndex s with
  | some r => .next (finish (putState (addRoundKey s.w r s.state) s))
  | none => .fault .roundImpossible

end Sys2Proof.Machine
end

