-- ==== Sys2Proof/Machine/Controller.lean ====
section
/-! DEFINITION. The controller's step (45_controller.md R206) and how many of them each command takes (30_encoding.md R72). -/

namespace Sys2Proof.Machine

/-- `Step(s)`: the step of the command in progress, by OPCUR. The arms of 0x0, 0xE and 0xF cannot arise and are a
fault (R206, U4; log entry 5). -/
def controllerStep (s : State) : Host.Outcome State Fault Refusal :=
  match s.opcur.toNat with
  | 0x1 => stepKeyExpand s
  | 0x2 => stepEncrypt s
  | 0x3 => stepDecrypt s
  | 0x4 => stepSubBytes s
  | 0x5 => stepInvSubBytes s
  | 0x6 => stepShiftRows s
  | 0x7 => stepInvShiftRows s
  | 0x8 => stepMixColumns s
  | 0x9 => stepInvMixColumns s
  | 0xA => stepAddRoundKey s
  | 0xB => stepSbox s
  | 0xC => stepInvSbox s
  | 0xD => stepGfMulc s
  | _ => .fault .opcurImpossible

/-- How many controller steps a command takes from its acceptance to `finish()` (30_encoding.md R72; log entry 9). -/
def stepCount (i : Instr) : Nat :=
  match i with
  | .nop => 0
  | .keyExpand => 40
  | .encrypt => 11
  | .decrypt => 11
  | .subBytes => 1
  | .invSubBytes => 1
  | .shiftRows => 1
  | .invShiftRows => 1
  | .mixColumns => 1
  | .invMixColumns => 1
  | .addRoundKey _ => 1
  | .sbox => 1
  | .invSbox => 1
  | .gfMulc _ => 1

end Sys2Proof.Machine
end

