-- ==== Sys2Proof/Machine/Bus.lean ====
section
/-! DEFINITION. The host's register writes and the cycle that combines the host's access with the controller's step (20_memory.md R58, R62). -/

namespace Sys2Proof.Machine

/-- `CommandWrite(v)` (45_controller.md R205): a legal word is that command's meaning; an illegal one is rejected,
as busy before as illegal (60_exceptions.md R234). -/
def commandWrite (v : Word) (s : State) : Host.Outcome State Fault Refusal :=
  match decode v with
  | .ok i => exec i s
  | .error _ => .next (raise (if s.busy then .errBusy else .errIllegal) 0 v s)

/-- `MemWrite(off, 4, v)` (20_memory.md R58). -/
def memWrite (off : BitVec 10) (v : Word) (s : State) : Host.Outcome State Fault Refusal :=
  match registerAt off with
  | .cmd => commandWrite v s
  | .status => .next (clearErrors v s)
  | .errinfo => .next s
  | .errcmd => .next s
  | .byteIo => .next (guardedWrite off v (putOperand v) s)
  | .key k => .next (guardedWrite off v (putKeyWord k v) s)
  | .state c => .next (guardedWrite off v (putStateWord c v) s)
  | .w _ => .next s
  | .reserved => .next s

/-- The host's part of a cycle: a write acts, a read and an idle bus change nothing (20_memory.md R57, R62). -/
def hostAccess (a : HostAccess) (s : State) : Host.Outcome State Fault Refusal :=
  match a with
  | .idle => .next s
  | .read _ => .next s
  | .write off v => memWrite off v s

/-- `Cycle(s, h, rst)` (20_memory.md R62): reset wins; else the host's access acts, and then the controller steps
exactly when BUSY was 1 at the start of the cycle. -/
def cycle (s : State) : Host.Outcome State Fault Refusal :=
  if s.pins.rst then .next (resetCycle s)
  else
    andThen (hostAccess s.pins.access (tick (busReadData s.pins s) s)) fun t =>
      if s.busy then controllerStep t else .next t

end Sys2Proof.Machine
end

