-- ==== Sys2Proof/Machine/Step.lean ====
section
/-! DEFINITION. One step of the machine, and where the next command word enters. -/

namespace Sys2Proof.Machine

/-- One step is one clock cycle (20_memory.md R62). -/
def step (s : State) : Host.Outcome State Fault Refusal := cycle s

/-- `s` with the command word `w` written to CMD in the coming cycle: a command enters as one CMD write and in no
other way (20_memory.md R66). A command is one 32-bit word (30_encoding.md R75), so the width is not used (log entry 8). -/
def State.withFetchWord (s : State) (_nbits w : Nat) : State :=
  { s with port := writeCycle 0 (BitVec.ofNat 32 w) :: s.port.tail }

end Sys2Proof.Machine
end

