-- ==== Sys2Proof/Safety.lean ====
section
/-! DEFINITION. What counts as a legal state and a host that does not reset, and what of the state a host access to a busy core can change, in the terms the statements use. -/

namespace Sys2Proof.Machine

/-- The states the rules can reach, by the ranges and relations the spec gives its registers. -/
structure Inv (s : State) : Prop where
  /-- OPCUR is 0 or a defined opcode (10_state.md R25, R29). -/
  opcur_le : s.opcur.toNat ≤ 13
  /-- ROUND never holds a value above 10 (R29). -/
  round_le : s.round.toNat ≤ 10
  /-- WIDX is 0 or 4 to 44 (R25, R31). -/
  widx_range : s.widx = 0 ∨ (4 ≤ s.widx.toNat ∧ s.widx.toNat ≤ 44)
  /-- While a command is in progress DONE is 0 and OPCUR is its opcode, which is not NOP's (45_controller.md R205, R206). -/
  busy_position : s.busy = true → s.done = false ∧ s.opcur ≠ 0
  /-- A KEY_EXPAND in progress has a next word to compute and a schedule not yet valid (43_key_schedule.md R157). -/
  busy_expand : s.busy = true → s.opcur = 0x1#4 → 4 ≤ s.widx.toNat ∧ s.widx.toNat ≤ 43 ∧ s.keyValid = false
  /-- A command that uses the schedule runs under a valid key only (60_exceptions.md R233). -/
  busy_key : s.busy = true → s.opcur = 0x2#4 ∨ s.opcur = 0x3#4 ∨ s.opcur = 0xA#4 → s.keyValid = true
  /-- A GF_MULC in progress holds a constant of CSET (40_gf_arith.md R103, R107). -/
  busy_constant : s.busy = true → s.opcur = 0xD#4 → cset.contains s.mulcC = true
  /-- A KEY_EXPAND in progress has computed the schedule's words below WIDX (70_reset_and_hazards.md R269). -/
  busy_words : s.busy = true → s.opcur = 0x1#4 → ∀ j (h : j < 44), j < s.widx.toNat → s.w[j] = (expandKey s.key)[j]
  /-- A valid key's schedule is in W (43_key_schedule.md R158). -/
  schedule_valid : s.keyValid = true → s.w = expandKey s.key
  /-- An error bit that is set was set by a rejection, which leaves its cause (60_exceptions.md R230). -/
  error_cause : s.errBusy = true ∨ s.errIllegal = true ∨ s.errNoKey = true → s.errCause ≠ 0
  /-- Cause 0 is "no rejection since reset" (10_state.md R26, R27). -/
  no_rejection : s.errCause = 0 → s.errOffset = 0 ∧ s.errCmd = 0

/-- None of the next `n` bus cycles is a reset. -/
def NoReset (n : Nat) (s : State) : Prop := ∀ p ∈ s.port.take n, p.rst = false

/-- The state less what a host access can change while a command runs: the bus, the error bits and the record of
the last rejection (20_memory.md R63). -/
def hostErased (s : State) : State :=
  { s with
    errBusy := false
    errIllegal := false
    errNoKey := false
    errCause := 0
    errOffset := 0
    errCmd := 0
    port := []
    rdata := 0 }

end Sys2Proof.Machine
end

