-- ==== Sys2Proof/Certificates/Slice0/Obligations.lean ====
section
/-! DEFINITION. The statements about AES128-CORE for the provers. Each docstring names the sentence of the spec it formalises.
One step of the machine is one clock cycle, and the host's bus cycles to come are the list `port` (log entry 2); every
statement about several cycles is about that list. No statement rests on a value of W that the spec leaves open. -/

open Sys2Proof Sys2Proof.Machine

/-! ## Words the statements share -/

namespace Sys2Proof.Machine

/-- The command `i` is accepted in `s` with opcode `op` and has no acceptance part of its own, its one step (the next
cycle, whatever the host does in it short of a reset) ends it, and the result is `done_` up to what the host may have done. -/
def OneStepCommand (i : Instr) (accepted done_ : State) (s : State) : Prop :=
  exec i s = .next accepted ∧
    ∃ u, Host.Core.run core 1 accepted = .next u ∧ hostErased u = hostErased done_

/-- `s` with a rejection recorded and nothing else changed, for the three causes (60_exceptions.md R230). -/
def busyRejected (off : BitVec 10) (v : Word) (s : State) : State :=
  { s with errBusy := true, errCause := 1, errOffset := off, errCmd := v }

/-- See `busyRejected`. -/
def illegalRejected (v : Word) (s : State) : State :=
  { s with errIllegal := true, errCause := 2, errOffset := 0, errCmd := v }

/-- See `busyRejected`. -/
def noKeyRejected (v : Word) (s : State) : State :=
  { s with errNoKey := true, errCause := 3, errOffset := 0, errCmd := v }

/-- The six classes of illegal words (30_encoding.md R74), read off the bits of the word. -/
abbrev IllegalByClass (v : Word) : Prop :=
  v.extractLsb' 0 4 = 0xE#4 ∨ v.extractLsb' 0 4 = 0xF#4 ∨ v.extractLsb' 16 16 ≠ 0#16 ∨
    (v.extractLsb' 4 4 ≠ 0#4 ∧ v.extractLsb' 0 4 ≠ 0xA#4) ∨
    (11 ≤ (v.extractLsb' 4 4).toNat ∧ v.extractLsb' 0 4 = 0xA#4) ∨
    (v.extractLsb' 8 8 ≠ 0#8 ∧ v.extractLsb' 0 4 ≠ 0xD#4) ∨
    (v.extractLsb' 8 8 ∉ [0x01#8, 0x02#8, 0x03#8, 0x09#8, 0x0B#8, 0x0D#8, 0x0E#8] ∧ v.extractLsb' 0 4 = 0xD#4)

/-- A write of the command word of `i` stands on the bus of this cycle, and this is no reset cycle. -/
def CommandOnBus (i : Instr) (s : State) : Prop :=
  s.pins.rst = false ∧ ∃ v, s.pins.access = .write 0 v ∧ decode v = .ok i

/-- The host's cycles of the boot order (70_reset_and_hazards.md R263) with the block command `cmd`: the key, KEY_EXPAND
and `n` reads of STATUS, the block, the command and `m` reads of STATUS. A poll (30_encoding.md R78) ends on a read
that shows BUSY 0, which is one read more than the command has steps. -/
def bootOrder (key b : Block) (cmd : Word) (n m : Nat) : List BusCycle :=
  [writeCycle 8 (keyRegisters key).w0, writeCycle 9 (keyRegisters key).w1, writeCycle 10 (keyRegisters key).w2,
    writeCycle 11 (keyRegisters key).w3, writeCycle 0 0x00000001] ++ List.replicate n (readCycle 1) ++
  [writeCycle 12 (blockToState b).w0, writeCycle 13 (blockToState b).w1, writeCycle 14 (blockToState b).w2,
    writeCycle 15 (blockToState b).w3, writeCycle 0 cmd] ++ List.replicate m (readCycle 1)

/-- The boot order with the block command `cmd`, from any idle state and with polls of at least 41 and 12 reads: the
reads of the first poll show BUSY 1 up to the 40th, and BUSY 0 and KEY_VALID 1 from the 41st on; those of the second
show BUSY 1 up to the 11th and BUSY 0 from the 12th on; and at the end STATE holds `f` of the block under the key's
expansion, with no error raised on the way. -/
def BootOrderComputes (cmd : Word) (f : Block → Schedule → Block) : Prop :=
  ∀ (s : State) (key b : Block) (n m : Nat), s.busy = false → 41 ≤ n → 12 ≤ m → s.port = bootOrder key b cmd n m →
    (∀ j, 1 ≤ j → j ≤ n → ∃ t, Host.Core.run core (5 + j) s = .next t ∧
      t.rdata.getLsbD 0 = decide (j ≤ 40) ∧ t.rdata.getLsbD 2 = decide (41 ≤ j)) ∧
    (∀ j, 1 ≤ j → j ≤ m → ∃ t, Host.Core.run core (10 + n + j) s = .next t ∧ t.rdata.getLsbD 0 = decide (j ≤ 11)) ∧
    ∃ u, Host.Core.run core (10 + n + m) s = .next u ∧ u.port = [] ∧ u.busy = false ∧ u.done = true ∧
      u.keyValid = true ∧ stateToBlock u.state = f b (expandKey (keyRegisters key)) ∧
      u.errBusy = s.errBusy ∧ u.errIllegal = s.errIllegal ∧ u.errNoKey = s.errNoKey

end Sys2Proof.Machine

/-! ## Encoding -/

/-- Decoding gives `i` exactly for the word that encodes `i`, for every well-formed command and every word:
no bit is dropped and no word has two meanings (30_encoding.md sections 1, 2 and 4). -/
def Obligations.DecodeAndEncodeAgree : Prop :=
  ∀ (v : Word) (i : Instr), decode v = .ok i ↔ (i.wellFormed = true ∧ encode i = v)

/-- The encoding function of R76, with RND 0 unless OP is 0xA and C 0 unless OP is 0xD. What the spec marks as derived
there and in R73: the function rebuilds every legal word, and the legal words are 12 single ones, the 11 of
ADD_ROUND_KEY and the 7 of GF_MULC (30_encoding.md sections 2 and 4). -/
def Obligations.EncodingFunctionRebuildsTheThirtyLegalWords : Prop :=
  (∀ op rnd c, enc op rnd c = 0#16 ++ c ++ rnd ++ op) ∧
    (∀ i, encode i = enc i.opcode i.rnd i.constant ∧ (i.opcode ≠ 0xA#4 → i.rnd = 0) ∧
      (i.opcode ≠ 0xD#4 → i.constant = 0)) ∧
    (∀ v i, decode v = .ok i → enc (v.extractLsb' 0 4) (v.extractLsb' 4 4) (v.extractLsb' 8 8) = v) ∧
    ∀ v : Word, (∃ i, decode v = .ok i) ↔
      v.toNat ∈ [0x0, 0x1, 0x2, 0x3, 0x4, 0x5, 0x6, 0x7, 0x8, 0x9, 0xB, 0xC] ∨
        (∃ rnd, rnd ≤ 10 ∧ v.toNat = 16 * rnd + 0xA) ∨
        ∃ c ∈ [0x01, 0x02, 0x03, 0x09, 0x0B, 0x0D, 0x0E], v.toNat = 256 * c + 0xD

/-- R73: a word is legal exactly when the six tests on its fields pass. -/
def Obligations.LegalWordsPassTheFieldTests : Prop :=
  ∀ v : Word, (∃ i, decode v = .ok i) ↔
    v.extractLsb' 16 16 = 0#16 ∧ v.extractLsb' 0 4 ≠ 0xE#4 ∧ v.extractLsb' 0 4 ≠ 0xF#4 ∧
      (v.extractLsb' 0 4 = 0xA#4 → (v.extractLsb' 4 4).toNat ≤ 10) ∧
      (v.extractLsb' 0 4 ≠ 0xA#4 → v.extractLsb' 4 4 = 0#4) ∧
      (v.extractLsb' 0 4 = 0xD#4 → v.extractLsb' 8 8 ∈ [0x01#8, 0x02#8, 0x03#8, 0x09#8, 0x0B#8, 0x0D#8, 0x0E#8]) ∧
      (v.extractLsb' 0 4 ≠ 0xD#4 → v.extractLsb' 8 8 = 0#8)

/-- Words written out from the field layout of R70 and the opcode map of R72 decode to their commands, and some
illegal ones to none (95_test_vectors.md section 2.11). -/
def Obligations.SampleWordsDecode : Prop :=
  decodeTableWord 32 0x00000000 = some .nop ∧ decodeTableWord 32 0x00000001 = some .keyExpand ∧
    decodeTableWord 32 0x00000003 = some .decrypt ∧ decodeTableWord 32 0x00000007 = some .invShiftRows ∧
    decodeTableWord 32 0x000000AA = some (.addRoundKey 10) ∧ decodeTableWord 32 0x0000000C = some .invSbox ∧
    decodeTableWord 32 0x00000E0D = some (.gfMulc 0x0E) ∧ decodeTableWord 32 0x000000BA = none ∧
    decodeTableWord 32 0x0000040D = none ∧ decodeTableWord 32 0x00000012 = none ∧
    decodeTableWord 32 0x0000000E = none ∧ decodeTableWord 32 0x00010002 = none

/-! ## Cycles, reads and writes -/

/-- A cycle that carries a CMD write of a command's word runs that command: on an idle core the step is `exec` of it,
with the cycle's pins used up and `bus_rdata` 0; while a command is in progress the word is rejected and the
controller steps. The same for a cycle with any host write, to whichever offset and with whatever data: the step does
that write and then, if BUSY was 1 at its start, the controller's step. A cycle with `bus_valid` 0 does no access,
whatever its other pins carry (20_memory.md sections 3 and 5, 45_controller.md section 2). -/
def Obligations.StepRunsTheDecodedCommand : Prop :=
  (∀ (s : State) (v : Word) (i : Instr) (rest : List BusCycle),
    s.port = writeCycle 0 v :: rest → decode v = .ok i →
      (s.busy = false → step s = exec i { s with port := rest, rdata := 0 }) ∧
        (s.busy = true → step s = controllerStep (busyRejected 0 v { s with port := rest, rdata := 0 }))) ∧
    (∀ (s : State) (off : BitVec 10) (v : Word) (rest : List BusCycle), s.port = writeCycle off v :: rest →
      (s.busy = false → step s = memWrite off v { s with port := rest, rdata := 0 }) ∧
        (s.busy = true → step s = andThen (memWrite off v { s with port := rest, rdata := 0 }) controllerStep)) ∧
    ∀ (s : State) (p : BusCycle) (rest : List BusCycle), s.port = p :: rest → p.rst = false → p.valid = false →
      (s.busy = false → step s = .next { s with port := rest, rdata := 0 }) ∧
        (s.busy = true → step s = controllerStep { s with port := rest, rdata := 0 })

/-- When BUSY is 0 the controller does nothing: an idle core keeps all its state over any number of cycles with no
access and no reset, whether they are listed or the list of bus cycles is exhausted (60_exceptions.md section 6; log
entry 2). -/
def Obligations.IdleCoreKeepsItsState : Prop :=
  ∀ (n : Nat) (s : State), s.busy = false → (∀ p ∈ s.port.take (n + 1), p.rst = false ∧ p.valid = false) →
    Host.Core.run core (n + 1) s = .next { s with port := s.port.drop (n + 1), rdata := 0 }

/-- R57: the value a read returns at every offset, from the state at the start of the cycle, and that a read has no
side effect and is allowed while BUSY is 1. -/
def Obligations.ReadReturnsTheRegisterWithoutSideEffect : Prop :=
  (∀ s : State,
    memRead 0 s = 0 ∧ memRead 1 s = statusWord s ∧
      memRead 2 s = (s.errOffset ++ s.errCause).setWidth 32 ∧ memRead 3 s = s.errCmd ∧
      memRead 4 s = (s.result ++ s.operand).setWidth 32 ∧
      (∀ k : Fin 4, memRead (BitVec.ofNat 10 (0x020 / 4 + k.val)) s = s.key.get k) ∧
      (∀ c : Fin 4, memRead (BitVec.ofNat 10 (0x030 / 4 + c.val)) s = s.state.get c) ∧
      (∀ i : Fin 44, memRead (BitVec.ofNat 10 (0x100 / 4 + i.val)) s = s.w[i]) ∧
      ∀ off : BitVec 10, (0x014 ≤ 4 * off.toNat ∧ 4 * off.toNat ≤ 0x01C) ∨
        (0x040 ≤ 4 * off.toNat ∧ 4 * off.toNat ≤ 0x0FC) ∨ 0x1B0 ≤ 4 * off.toNat → memRead off s = 0) ∧
    ∀ (s : State) (off : BitVec 10) (d : Word) (rest : List BusCycle),
      s.port = { readCycle off with wdata := d } :: rest → step s = andThen (step { s with port := idleCycle :: rest }) fun t =>
        .next { t with rdata := memRead off s }

/-- The places of the fields of STATUS, reserved bits 0 (10_state.md section 2). -/
def Obligations.StatusWordShowsItsFields : Prop :=
  ∀ s : State,
    (statusWord s).getLsbD 0 = s.busy ∧ (statusWord s).getLsbD 1 = s.done ∧ (statusWord s).getLsbD 2 = s.keyValid ∧
      (statusWord s).getLsbD 3 = false ∧ (statusWord s).getLsbD 4 = s.errBusy ∧
      (statusWord s).getLsbD 5 = s.errIllegal ∧ (statusWord s).getLsbD 6 = s.errNoKey ∧
      (statusWord s).getLsbD 7 = false ∧ (statusWord s).extractLsb' 8 4 = s.round ∧
      (statusWord s).extractLsb' 12 4 = 0#4 ∧ (statusWord s).extractLsb' 16 6 = s.widx ∧
      (statusWord s).extractLsb' 22 2 = 0#2 ∧ (statusWord s).extractLsb' 24 4 = s.opcur ∧
      (statusWord s).extractLsb' 28 4 = 0#4

/-- R58: what a host write does at every offset. A write to a read-only or reserved offset has no effect, busy or not. -/
def Obligations.HostWriteActsByRegister : Prop :=
  ∀ (s : State) (v : Word),
    memWrite 0 v s = commandWrite v s ∧
      memWrite 1 v s = .next (clearErrors v s) ∧
      memWrite 4 v s =
        .next (if s.busy then busyRejected 4 v s else { s with operand := v.extractLsb' 0 8 }) ∧
      (∀ k : Fin 4, memWrite (BitVec.ofNat 10 (0x020 / 4 + k.val)) v s =
        .next (if s.busy then busyRejected (BitVec.ofNat 10 (0x020 / 4 + k.val)) v s
          else { s with key := s.key.set k v, keyValid := false })) ∧
      (∀ c : Fin 4, memWrite (BitVec.ofNat 10 (0x030 / 4 + c.val)) v s =
        .next (if s.busy then busyRejected (BitVec.ofNat 10 (0x030 / 4 + c.val)) v s
          else { s with state := s.state.set c v })) ∧
      ∀ off : BitVec 10, 4 * off.toNat = 0x008 ∨ 4 * off.toNat = 0x00C ∨
        (0x014 ≤ 4 * off.toNat ∧ 4 * off.toNat ≤ 0x01C) ∨ 0x040 ≤ 4 * off.toNat → memWrite off v s = .next s

/-- R231: ERR_BUSY is raised by a write to CMD, BYTE_IO, KEY or STATE while BUSY is 1, recording the register and the
data, and by no other write. -/
def Obligations.WriteWhileBusyIsRejected : Prop :=
  ∀ (s : State) (off : BitVec 10) (v : Word),
    (s.busy = true → off.toNat = 0 ∨ off.toNat = 4 ∨ (8 ≤ off.toNat ∧ off.toNat ≤ 15) →
      memWrite off v s = .next (busyRejected off v s)) ∧
    (∀ t, memWrite off v s = .next t → s.errBusy = false → t.errBusy = true →
      s.busy = true ∧ (off.toNat = 0 ∨ off.toNat = 4 ∨ (8 ≤ off.toNat ∧ off.toNat ≤ 15)))

/-- The same two rejections said of the command itself: a command written while BUSY is 1 is rejected with ERR_BUSY
whatever it is, and one whose operand is out of range on an idle core with ERR_ILLEGAL, since its word is illegal
(30_encoding.md section 3, 60_exceptions.md section 2). -/
def Obligations.CommandOnBusyCoreOrWithBadOperandIsRejected : Prop :=
  ∀ (i : Instr) (s : State),
    (s.busy = true → exec i s = .next (busyRejected 0 (encode i) s)) ∧
      (s.busy = false → i.wellFormed = false → exec i s = .next (illegalRejected (encode i) s))

/-- R230: `raise` sets its own STATUS bit and leaves the other two, overwrites ERRINFO and ERRCMD, and changes nothing else. -/
def Obligations.RejectionRecordsItselfAndNothingElse : Prop :=
  ∀ (s : State) (off : BitVec 10) (v : Word),
    raise .errBusy off v s = { s with errBusy := true, errCause := 1, errOffset := off, errCmd := v } ∧
      raise .errIllegal off v s = { s with errIllegal := true, errCause := 2, errOffset := off, errCmd := v } ∧
      raise .errNoKey off v s = { s with errNoKey := true, errCause := 3, errOffset := off, errCmd := v }

/-- R232: a CMD write of an illegal word on an idle core is rejected with ERR_ILLEGAL, which records the word, for every
class of R74; no other word raises ERR_ILLEGAL. -/
def Obligations.IllegalCommandWordIsRejected : Prop :=
  ∀ (s : State) (v : Word), s.busy = false →
    (IllegalByClass v → memWrite 0 v s = .next (illegalRejected v s)) ∧
      (¬ IllegalByClass v → ∃ t, memWrite 0 v s = .next t ∧ t.errIllegal = s.errIllegal)

/-- R233: ENCRYPT, DECRYPT and ADD_ROUND_KEY on an idle core whose KEY_VALID is 0 are rejected with ERR_NOKEY, and
nothing else raises it. -/
def Obligations.CommandWithoutKeyIsRejected : Prop :=
  (∀ (s : State) (i : Instr), s.busy = false → s.keyValid = false →
    (i = .encrypt ∨ i = .decrypt ∨ ∃ rnd : BitVec 4, rnd.toNat ≤ 10 ∧ i = .addRoundKey rnd) →
      exec i s = .next (noKeyRejected (encode i) s)) ∧
    ∀ (s t : State) (off : BitVec 10) (v : Word), memWrite off v s = .next t → s.errNoKey = false →
      t.errNoKey = true → off = 0 ∧ s.busy = false ∧ s.keyValid = false ∧
        ∃ i, decode v = .ok i ∧ (i = .encrypt ∨ i = .decrypt ∨ ∃ rnd, i = .addRoundKey rnd)

/-- R234: a CMD write that breaks several checks reports exactly one cause, busy before illegal before no key, and a
write to any other register can raise only ERR_BUSY. -/
def Obligations.RejectionPriorityIsBusyIllegalNoKey : Prop :=
  ∀ (s : State) (v : Word),
    (s.busy = true → memWrite 0 v s = .next (busyRejected 0 v s)) ∧
      (s.busy = false → IllegalByClass v → memWrite 0 v s = .next (illegalRejected v s)) ∧
      (s.busy = false → ¬ IllegalByClass v → v.extractLsb' 0 4 ∈ [0x2#4, 0x3#4, 0xA#4] → s.keyValid = false →
        memWrite 0 v s = .next (noKeyRejected v s)) ∧
      ∀ (off : BitVec 10) (t : State), off ≠ 0 → memWrite off v s = .next t →
        (t.errIllegal = true → s.errIllegal = true) ∧ (t.errNoKey = true → s.errNoKey = true)

/-- R235: a STATUS write clears each error bit whose written bit is 1, ignores every other bit of the data, leaves
ERRINFO and ERRCMD, is allowed while BUSY is 1 and raises no error; CLRERR clears all three. -/
def Obligations.StatusWriteClearsTheNamedErrors : Prop :=
  ∀ (s : State) (v : Word),
    memWrite 1 v s = .next { s with
      errBusy := if v.getLsbD 4 then false else s.errBusy
      errIllegal := if v.getLsbD 5 then false else s.errIllegal
      errNoKey := if v.getLsbD 6 then false else s.errNoKey } ∧
    memWrite 1 0x00000070 s = .next { s with errBusy := false, errIllegal := false, errNoKey := false }

/-! ## Reset -/

/-- The state after reset: idle, no key valid, no error pending, every register but W at 0 (10_state.md section 6,
70_reset_and_hazards.md section 1). -/
def Obligations.ResetStateIsIdleAndZero : Prop :=
  let s := State.reset
  s.key = ⟨0, 0, 0, 0⟩ ∧ s.state = ⟨0, 0, 0, 0⟩ ∧ s.operand = 0 ∧ s.result = 0 ∧ s.busy = false ∧ s.done = false ∧
    s.keyValid = false ∧ s.errBusy = false ∧ s.errIllegal = false ∧ s.errNoKey = false ∧ s.round = 0 ∧ s.widx = 0 ∧
    s.opcur = 0 ∧ s.mulcC = 0 ∧ s.errCause = 0 ∧ s.errOffset = 0 ∧ s.errCmd = 0

/-- R260: a cycle with `rst` 1 puts every state element but W at its reset value, from any state, a command in progress
included; the access in that cycle is ignored (no effect, no error, read data 0) and the controller does not step.
Nothing is said of W, whose contents are then unspecified. -/
def Obligations.ResetCycleResetsEverythingButTheSchedule : Prop :=
  ∀ s : State, s.pins.rst = true → ∃ t, step s = .next t ∧
    t.key = ⟨0, 0, 0, 0⟩ ∧ t.state = ⟨0, 0, 0, 0⟩ ∧ t.operand = 0 ∧ t.result = 0 ∧ t.busy = false ∧ t.done = false ∧
      t.keyValid = false ∧ t.errBusy = false ∧ t.errIllegal = false ∧ t.errNoKey = false ∧ t.round = 0 ∧
      t.widx = 0 ∧ t.opcur = 0 ∧ t.mulcC = 0 ∧ t.errCause = 0 ∧ t.errOffset = 0 ∧ t.errCmd = 0 ∧
      t.rdata = 0 ∧ t.port = s.port.tail

/-- Holding `rst` for RST_CYCLES cycles, whatever that parameter is, leaves an idle core without a valid key from any
state (70_reset_and_hazards.md section 1). -/
def Obligations.HeldResetLeavesAnIdleCore : Prop :=
  ∀ s : State, Config.rstCycles ≤ s.port.length → (∀ p ∈ s.port.take Config.rstCycles, p.rst = true) →
    ∃ t, Host.Core.run core Config.rstCycles s = .next t ∧ t.busy = false ∧ t.keyValid = false ∧
      t.state = ⟨0, 0, 0, 0⟩ ∧ t.key = ⟨0, 0, 0, 0⟩ ∧ t.port = s.port.drop Config.rstCycles

/-! ## Whole-machine rules -/

/-- The invariant of 10_state.md sections 2, 4 and 5 holds after reset. -/
def Obligations.ResetStateMeetsTheInvariant : Prop := Inv State.reset

/-- Every step from a state that meets the invariant, whatever the host does, gives a state that meets it: the counters
stay in range, a busy core is at a legal position of its command, and a valid key's schedule is in W
(10_state.md sections 2, 4 and 5, 43_key_schedule.md section 2). -/
def Obligations.EveryStepKeepsTheInvariant : Prop :=
  ∀ s t : State, Inv s → step s = .next t → Inv t

/-- The controller's case on OPCUR is total on reachable states and a step raises no error: from a state that meets the
invariant the machine always goes on (45_controller.md section 2). -/
def Obligations.LegalStateAlwaysSteps : Prop :=
  ∀ s : State, Inv s → ∃ t, step s = .next t

/-- R155: W changes only through KEY_EXPAND. Outside a reset cycle, a step that changes W is a step of KEY_EXPAND, which
changes the one word WIDX names, or the acceptance of KEY_EXPAND, which changes W[0..3] to KEY[0..3]. -/
def Obligations.ScheduleChangesOnlyByKeyExpand : Prop :=
  ∀ s t : State, s.pins.rst = false → step s = .next t → t.w ≠ s.w →
    (s.busy = true ∧ s.opcur = 0x1#4 ∧ 4 ≤ s.widx.toNat ∧ s.widx.toNat ≤ 43 ∧
        ∀ j (h : j < 44), j ≠ s.widx.toNat → t.w[j] = s.w[j]) ∨
      (s.busy = false ∧ CommandOnBus .keyExpand s ∧ (∀ k : Fin 4, t.w[k.val] = s.key.get k) ∧
        ∀ j (h : j < 44), 4 ≤ j → t.w[j] = s.w[j])

/-- R158: what sets and what clears KEY_VALID, and that nothing else changes it; and that ENCRYPT, DECRYPT and
ADD_ROUND_KEY are refused with ERR_NOKEY while it is 0. (The rule's invariant is a field of `Inv`.) -/
def Obligations.KeyValidFollowsItsFourWriters : Prop :=
  (∀ s t : State, step s = .next t →
    (s.pins.rst = true → t.keyValid = false) ∧
    (s.busy = false → CommandOnBus .keyExpand s → t.keyValid = false) ∧
    (s.pins.rst = false → s.busy = true → s.opcur = 0x1#4 → s.widx = 43 → t.keyValid = true) ∧
    (∀ (k : Fin 4) (v : Word), s.pins.rst = false → s.busy = false →
      s.pins.access = .write (BitVec.ofNat 10 (8 + k.val)) v → t.keyValid = false) ∧
    (t.keyValid ≠ s.keyValid →
      s.pins.rst = true ∨ (s.busy = false ∧ CommandOnBus .keyExpand s) ∨
        (s.busy = true ∧ s.opcur = 0x1#4 ∧ s.widx = 43) ∨
        (s.busy = false ∧ ∃ (k : Fin 4) (v : Word), s.pins.access = .write (BitVec.ofNat 10 (8 + k.val)) v))) ∧
    ∀ (s : State) (i : Instr), s.busy = false → s.keyValid = false →
      (i = .encrypt ∨ i = .decrypt ∨ ∃ rnd : BitVec 4, rnd.toNat ≤ 10 ∧ i = .addRoundKey rnd) →
        exec i s = .next (noKeyRejected (encode i) s)

/-- The STATUS flags are written only by their rules: BUSY by acceptance, `finish()` and reset, DONE likewise, and each
error bit is set by a rejection and cleared by a STATUS write with its bit set or by reset (10_state.md section 5). -/
def Obligations.StatusFlagsChangeOnlyByTheirRules : Prop :=
  ∀ s t : State, s.pins.rst = false → step s = .next t →
    (s.busy = false → t.busy = true → t.done = false ∧ ∃ i, CommandOnBus i s ∧ i ≠ .nop) ∧
      (s.busy = true → t.busy = false → t.done = true) ∧
      (s.done = false → t.done = true → s.busy = true ∧ t.busy = false) ∧
      (s.done = true → t.done = false → s.busy = false ∧ t.busy = true) ∧
      (s.errBusy = false → t.errBusy = true →
        s.busy = true ∧ ∃ off v, s.pins.access = .write off v ∧ t.errCause = 1 ∧ t.errOffset = off ∧ t.errCmd = v) ∧
      (s.errIllegal = false → t.errIllegal = true →
        s.busy = false ∧ ∃ v, s.pins.access = .write 0 v ∧ IllegalByClass v ∧ t.errCause = 2 ∧ t.errCmd = v) ∧
      (s.errNoKey = false → t.errNoKey = true →
        s.busy = false ∧ s.keyValid = false ∧ ∃ v, s.pins.access = .write 0 v ∧ t.errCause = 3 ∧ t.errCmd = v) ∧
      (s.errBusy = true → t.errBusy = false → ∃ v, s.pins.access = .write 1 v ∧ v.getLsbD 4 = true) ∧
      (s.errIllegal = true → t.errIllegal = false → ∃ v, s.pins.access = .write 1 v ∧ v.getLsbD 5 = true) ∧
      (s.errNoKey = true → t.errNoKey = false → ∃ v, s.pins.access = .write 1 v ∧ v.getLsbD 6 = true)

/-- While a command is in progress the host's write and the controller's step touch disjoint state: the write changes
only the error bits and the record of the rejection, the step leaves these, KEY, OPERAND, OPCUR and MULC_C alone and
does not read KEY, and the two orders give the same state (20_memory.md section 5). -/
def Obligations.HostWriteAndControllerStepAreDisjoint : Prop :=
  ∀ (s : State) (off : BitVec 10) (v : Word), s.busy = true →
    (∃ t, memWrite off v s = .next t ∧ hostErased t = hostErased s ∧ t.port = s.port ∧ t.rdata = s.rdata ∧
      controllerStep t = andThen (controllerStep s) fun u => .next { u with
        errBusy := t.errBusy
        errIllegal := t.errIllegal
        errNoKey := t.errNoKey
        errCause := t.errCause
        errOffset := t.errOffset
        errCmd := t.errCmd }) ∧
    (∀ u, controllerStep s = .next u →
      u.key = s.key ∧ u.operand = s.operand ∧ u.opcur = s.opcur ∧ u.mulcC = s.mulcC ∧ u.errBusy = s.errBusy ∧
        u.errIllegal = s.errIllegal ∧ u.errNoKey = s.errNoKey ∧ u.errCause = s.errCause ∧
        u.errOffset = s.errOffset ∧ u.errCmd = s.errCmd) ∧
    ∀ K : Quad, controllerStep { s with key := K } =
      andThen (controllerStep s) fun u => .next { u with key := K }

/-- R30: MULC_C is 0 after reset, set by the acceptance of GF_MULC to the command's constant, read by the GF_MULC step,
and read or written by nothing else; the host cannot read it. -/
def Obligations.ConstantLatchBelongsToGfMulc : Prop :=
  State.reset.mulcC = 0 ∧
    (∀ (s : State) (c : Byte), s.busy = false → cset.contains c = true →
      ∃ t, exec (.gfMulc c) s = .next t ∧ t.mulcC = c) ∧
    (∀ s t : State, step s = .next t → t.mulcC ≠ s.mulcC →
      s.pins.rst = true ∨ (s.busy = false ∧ ∃ c, CommandOnBus (.gfMulc c) s ∧ t.mulcC = c)) ∧
    (∀ (s : State) (off : BitVec 10) (x : Byte), memRead off { s with mulcC := x } = memRead off s) ∧
    (∀ (s : State) (off : BitVec 10) (v : Word) (x : Byte), ¬ (off = 0 ∧ ∃ c, decode v = .ok (.gfMulc c)) →
      memWrite off v { s with mulcC := x } = andThen (memWrite off v s) fun t => .next { t with mulcC := x }) ∧
    (∀ (s : State) (x : Byte), s.opcur ≠ 0xD#4 →
      controllerStep { s with mulcC := x } = andThen (controllerStep s) fun t => .next { t with mulcC := x }) ∧
    ∀ (s t : State), s.opcur = 0xD#4 → controllerStep s = .next t → mulc s.mulcC s.operand = some t.result

/-- Every CMD write of a command is answered by a next state. Acceptance does no data work except KEY_EXPAND's copy:
KEY, STATE and BYTE_IO are unchanged, ROUND changes only for ENCRYPT, DECRYPT and ADD_ROUND_KEY, MULC_C only for
GF_MULC, and W, WIDX and KEY_VALID only for KEY_EXPAND (45_controller.md section 2). -/
def Obligations.EveryCommandWriteIsAnsweredWithoutDataWork : Prop :=
  ∀ (i : Instr) (s : State), ∃ t, exec i s = .next t ∧
    t.key = s.key ∧ t.state = s.state ∧ t.operand = s.operand ∧ t.result = s.result ∧
      (i ≠ .encrypt → i ≠ .decrypt → (∀ rnd, i ≠ .addRoundKey rnd) → t.round = s.round) ∧
      ((∀ c, i ≠ .gfMulc c) → t.mulcC = s.mulcC) ∧
      (i ≠ .keyExpand → t.w = s.w ∧ t.widx = s.widx ∧ t.keyValid = s.keyValid) ∧
      (∀ j (h : j < 44), 4 ≤ j → t.w[j] = s.w[j]) ∧
      t.port = s.port ∧ t.rdata = s.rdata ∧ t.draws = s.draws

/-- Every accepted command finishes after exactly its step count (40, 11, 1, and 0 for NOP), and no host access can
stop, stall or cancel it (45_controller.md section 2, 70_reset_and_hazards.md section 4). The step counts are this
spec's choice (log entry 9). -/
def Obligations.AcceptedCommandFinishesAfterItsSteps : Prop :=
  ∀ (i : Instr) (s : State), i.wellFormed = true → s.busy = false →
    (i = .encrypt ∨ i = .decrypt ∨ (∃ rnd, i = .addRoundKey rnd) → s.keyValid = true) → NoReset (stepCount i) s →
      ∃ t, exec i s = .next t ∧
        (∀ k, k < stepCount i → ∃ u, Host.Core.run core k t = .next u ∧ u.busy = true ∧ u.done = false) ∧
        ∃ u, Host.Core.run core (stepCount i) t = .next u ∧ u.busy = false ∧ (i ≠ .nop → u.done = true)

/-- A rejection in the cycle of any step, the last one included, takes effect beside it, whichever of CMD, BYTE_IO,
KEY and STATE was written: the step's result is the one it would have had on an idle bus (60_exceptions.md section 2). -/
def Obligations.RejectedWriteDoesNotDisturbTheStep : Prop :=
  ∀ (s : State) (off : BitVec 10) (v : Word) (rest : List BusCycle), Inv s → s.busy = true →
    off.toNat = 0 ∨ off.toNat = 4 ∨ (8 ≤ off.toNat ∧ off.toNat ≤ 15) → s.port = writeCycle off v :: rest →
      ∃ t u, step s = .next t ∧ step { s with port := idleCycle :: rest } = .next u ∧
        hostErased t = hostErased u ∧ t.errBusy = true ∧ t.errCause = 1 ∧ t.errOffset = off ∧ t.errCmd = v ∧
        t.errIllegal = s.errIllegal ∧ t.errNoKey = s.errNoKey

/-! ## GF(2^8) and the tables -/

/-- R100: doubling shifts left by one bit and XORs 0x1B where the high bit was set. -/
def Obligations.DoubleShiftsAndReduces : Prop :=
  ∀ b : Byte, double b =
    if 128 ≤ b.toNat then BitVec.ofNat 8 (2 * b.toNat % 256) ^^^ 0x1B#8 else BitVec.ofNat 8 (2 * b.toNat)

/-- What 40_gf_arith.md section 1 derives of the doubler (R101): with the byte `b` read as the polynomial
`b7 x^7 + ... + b0` over the field of two elements, `double b` is the product of `b` and `x` modulo
`x^8 + x^4 + x^3 + x + 1`. -/
def Obligations.DoubleIsMultiplicationByX : Prop :=
  let poly : Byte → Polynomial (ZMod 2) := fun b =>
    ∑ i ∈ Finset.range 8, if b.getLsbD i then Polynomial.X ^ i else 0
  let m : Polynomial (ZMod 2) := Polynomial.X ^ 8 + Polynomial.X ^ 4 + Polynomial.X ^ 3 + Polynomial.X + 1
  ∀ b : Byte, m ∣ poly (double b) - Polynomial.X * poly b

/-- The laws of 40_gf_arith.md section 1 (R104): linearity of `double`, which the source states, and, as the spec derives,
of every fixed multiplier, and that each is the product by its constant in GF(2^8). -/
def Obligations.FixedMultipliersAreLinearProducts : Prop :=
  let poly : Byte → Polynomial (ZMod 2) := fun b =>
    ∑ i ∈ Finset.range 8, if b.getLsbD i then Polynomial.X ^ i else 0
  let m : Polynomial (ZMod 2) := Polynomial.X ^ 8 + Polynomial.X ^ 4 + Polynomial.X ^ 3 + Polynomial.X + 1
  (∀ a b : Byte, double a ^^^ double b = double (a ^^^ b)) ∧
    (∀ c ∈ [0x01#8, 0x02#8, 0x03#8, 0x09#8, 0x0B#8, 0x0D#8, 0x0E#8],
      mulc c 0x00 = some 0x00 ∧
        ∀ a b : Byte, ∃ x y, mulc c a = some x ∧ mulc c b = some y ∧ mulc c (a ^^^ b) = some (x ^^^ y) ∧
          m ∣ poly x - poly c * poly a) ∧
    ∀ b : Byte, mulc 0x01 b = some b

/-- The multiplier's seven functions by their binary expansions, and that no other constant has one
(40_gf_arith.md section 1). -/
def Obligations.MultiplierSupportsSevenConstants : Prop :=
  (∀ b : Byte,
    mulc 0x01 b = some b ∧ mulc 0x02 b = some (double b) ∧ mulc 0x03 b = some (double b ^^^ b) ∧
      mulc 0x09 b = some (double (double (double b)) ^^^ b) ∧
      mulc 0x0B b = some (double (double (double b)) ^^^ double b ^^^ b) ∧
      mulc 0x0D b = some (double (double (double b)) ^^^ double (double b) ^^^ b) ∧
      mulc 0x0E b = some (double (double (double b)) ^^^ double (double b) ^^^ double b)) ∧
    ∀ c b : Byte, c ∉ [0x01#8, 0x02#8, 0x03#8, 0x09#8, 0x0B#8, 0x0D#8, 0x0E#8] → mulc c b = none

/-- The two S-boxes are inverse permutations without a fixed point, and the round constants are the repeated doublings
of 1 (41_tables.md sections 1 and 2). The table values are general knowledge the spec supplies (log entry 7). -/
def Obligations.TablesMeetTheirLaws : Prop :=
  (∀ x : Byte, invSbox (sbox x) = x ∧ sbox (invSbox x) = x ∧ sbox x ≠ x) ∧
    (∀ j : Fin 10, rcon j = double^[j.val] 0x01) ∧ sbox 0x53 = 0xED ∧ rcon 8 = 0x1B

/-! ## Codec and key schedule -/

/-- The encoder of R141, and, as the spec derives there, that `encode` and `decode` of a block are inverse to each other
(42_state_codec.md). -/
def Obligations.BlockCodecIsABijection : Prop :=
  (∀ (S : Quad) (i : Fin 16),
    (stateToBlock S)[i] = sByte S ⟨i.val % 4, by omega⟩ ⟨i.val / 4, by omega⟩) ∧
    (∀ b : Block, stateToBlock (blockToState b) = b) ∧ ∀ S : Quad, blockToState (stateToBlock S) = S

/-- R140: byte `i` of a block is at row `i mod 4`, column `i div 4`. What the spec derives from it in R143 and R144: block
and key words are packed most significant byte first, and the first four words of the schedule are the key words
(42_state_codec.md). -/
def Obligations.BlocksAndKeysArePackedBigEndian : Prop :=
  (∀ (b : Block) (i : Fin 16), sByte (blockToState b) ⟨i.val % 4, by omega⟩ ⟨i.val / 4, by omega⟩ = b[i]) ∧
    (∀ (b : Block) (c : Fin 4),
      (blockToState b).get c = b[4 * c.val] ++ b[4 * c.val + 1] ++ b[4 * c.val + 2] ++ b[4 * c.val + 3]) ∧
    (∀ (key : Block) (k : Fin 4),
      (keyRegisters key).get k = key[4 * k.val] ++ key[4 * k.val + 1] ++ key[4 * k.val + 2] ++ key[4 * k.val + 3]) ∧
    ∀ (K : Quad) (k : Fin 4), (expandKey K)[k.val] = K.get k

/-- R150, R151 and R152: the three word functions of the key schedule. -/
def Obligations.KeyScheduleWordFunctions : Prop :=
  (∀ t : Word, rotWord t = pack (byteOf t 1) (byteOf t 2) (byteOf t 3) (byteOf t 0) ∧
    rotWord t = t <<< 8 ||| t >>> 24) ∧
    (∀ (t : Word) (j : Fin 4), byteOf (subWord t) j = sbox (byteOf t j)) ∧
    (∀ (t : Word) (j : Fin 10), rconXor t j = t ^^^ (rcon j).setWidth 32 <<< 24 ∧
      byteOf (rconXor t j) 0 = byteOf t 0 ^^^ rcon j ∧
      (rconXor t j).extractLsb' 0 24 = t.extractLsb' 0 24)

/-- R153: the recurrence of `expandKey` and the example words of the rule. -/
def Obligations.ExpandKeyMeetsItsRecurrence : Prop :=
  (∀ K : Quad,
    (∀ k : Fin 4, (expandKey K)[k.val] = K.get k) ∧
      ∀ i (h : 4 ≤ i ∧ i < 44),
        (expandKey K)[i] = (expandKey K)[i - 4] ^^^
          (if i % 4 = 0 then rconXor (subWord (rotWord (expandKey K)[i - 1])) ⟨i / 4 - 1, by omega⟩
            else (expandKey K)[i - 1])) ∧
    (expandKey ⟨0x00010203, 0x04050607, 0x08090A0B, 0x0C0D0E0F⟩)[4] = 0xD6AA74FD ∧
    (expandKey ⟨0x00010203, 0x04050607, 0x08090A0B, 0x0C0D0E0F⟩)[43] = 0x4D2B30C5

/-! ## The state operations -/

/-- R170: AddRoundKey byte by byte, and that it is its own inverse. -/
def Obligations.AddRoundKeyXorsTheRoundKey : Prop :=
  ∀ (w : Schedule) (r : Fin 11) (S : Quad),
    (∀ row c : Fin 4, sByte (addRoundKey w r S) row c = sByte S row c ^^^ byteOf w[4 * r.val + c.val] row) ∧
      addRoundKey w r (addRoundKey w r S) = S

/-- Every byte of the result of the six keyless state operations (44_round_transforms.md section 1, R171 to R176), and the
examples of ShiftRows and MixColumns. That the rows of InvMixColumns rotate right is the spec's own inference from the
inverse law (R176). -/
def Obligations.StateOperationsGiveTheirBytes : Prop :=
  (∀ (S : Quad) (r c : Fin 4),
    sByte (subBytes S) r c = sbox (sByte S r c) ∧
      sByte (invSubBytes S) r c = invSbox (sByte S r c) ∧
      sByte (shiftRows S) r c = sByte S r ⟨(c.val + r.val) % 4, by omega⟩ ∧
      sByte (invShiftRows S) r c = sByte S r ⟨(c.val + 4 - r.val) % 4, by omega⟩) ∧
    (∀ (S : Quad) (c : Fin 4), ∃ a0 a1 a2 a3, a0 = sByte S 0 c ∧ a1 = sByte S 1 c ∧ a2 = sByte S 2 c ∧
      a3 = sByte S 3 c ∧
      sByte (mixColumns S) 0 c = mul2 a0 ^^^ mul3 a1 ^^^ a2 ^^^ a3 ∧
      sByte (mixColumns S) 1 c = a0 ^^^ mul2 a1 ^^^ mul3 a2 ^^^ a3 ∧
      sByte (mixColumns S) 2 c = a0 ^^^ a1 ^^^ mul2 a2 ^^^ mul3 a3 ∧
      sByte (mixColumns S) 3 c = mul3 a0 ^^^ a1 ^^^ a2 ^^^ mul2 a3 ∧
      sByte (invMixColumns S) 0 c = mul14 a0 ^^^ mul11 a1 ^^^ mul13 a2 ^^^ mul9 a3 ∧
      sByte (invMixColumns S) 1 c = mul9 a0 ^^^ mul14 a1 ^^^ mul11 a2 ^^^ mul13 a3 ∧
      sByte (invMixColumns S) 2 c = mul13 a0 ^^^ mul9 a1 ^^^ mul14 a2 ^^^ mul11 a3 ∧
      sByte (invMixColumns S) 3 c = mul11 a0 ^^^ mul13 a1 ^^^ mul9 a2 ^^^ mul14 a3) ∧
    shiftRows ⟨0x00010203, 0x04050607, 0x08090A0B, 0x0C0D0E0F⟩ = ⟨0x00050A0F, 0x04090E03, 0x080D0207, 0x0C01060B⟩ ∧
    (mixColumns ⟨0xDB135345, 0, 0, 0⟩).w0 = 0x8E4DA1BC

/-- R177: the inverse laws of the seven state operations. -/
def Obligations.StateOperationsAreInverse : Prop :=
  ∀ S : Quad,
    invSubBytes (subBytes S) = S ∧ subBytes (invSubBytes S) = S ∧
      invShiftRows (shiftRows S) = S ∧ shiftRows (invShiftRows S) = S ∧
      invMixColumns (mixColumns S) = S ∧ mixColumns (invMixColumns S) = S ∧
      ∀ (w : Schedule) (r : Fin 11), addRoundKey w r (addRoundKey w r S) = S

/-- What the spec derives in R153, R170 and R177: SubBytes commutes with ShiftRows, InvSubBytes with InvShiftRows and
SubWord with RotWord, and AddRoundKey XORs whole words (43_key_schedule.md section 1, 44_round_transforms.md section 1). -/
def Obligations.BytewiseOperationsCommuteWithRotations : Prop :=
  (∀ S : Quad, subBytes (shiftRows S) = shiftRows (subBytes S) ∧
    invSubBytes (invShiftRows S) = invShiftRows (invSubBytes S)) ∧
    (∀ t : Word, subWord (rotWord t) = rotWord (subWord t)) ∧
    ∀ (w : Schedule) (r : Fin 11) (S : Quad) (c : Fin 4),
      (addRoundKey w r S).get c = S.get c ^^^ w[4 * r.val + c.val]

/-- A column of four equal bytes is unchanged by MixColumns and by InvMixColumns, four ShiftRows restore the state, and
row 0 never moves (44_round_transforms.md section 2). -/
def Obligations.FixedColumnsAndRotationOrder : Prop :=
  ∀ S : Quad,
    (∀ c : Fin 4, (∀ r : Fin 4, sByte S r c = sByte S 0 c) →
      (mixColumns S).get c = S.get c ∧ (invMixColumns S).get c = S.get c) ∧
      shiftRows (shiftRows (shiftRows (shiftRows S))) = S ∧
      ∀ c : Fin 4, sByte (shiftRows S) 0 c = sByte S 0 c ∧ sByte (invShiftRows S) 0 c = sByte S 0 c

/-! ## The block functions -/

/-- R200: the three forms of an encryption stage; and those of a decryption stage (45_controller.md section 1). -/
def Obligations.StagesHaveTheirThreeForms : Prop :=
  ∀ (w : Schedule) (S : Quad),
    encStage w 0 S = addRoundKey w 0 S ∧
      (∀ r : Fin 11, 1 ≤ r.val ∧ r.val ≤ 9 →
        encStage w r S = addRoundKey w r (mixColumns (shiftRows (subBytes S)))) ∧
      encStage w 10 S = addRoundKey w 10 (shiftRows (subBytes S)) ∧
      decStage w 10 S = addRoundKey w 10 S ∧
      (∀ r : Fin 11, 1 ≤ r.val ∧ r.val ≤ 9 →
        decStage w r S = invMixColumns (addRoundKey w r (invSubBytes (invShiftRows S)))) ∧
      decStage w 0 S = addRoundKey w 0 (invSubBytes (invShiftRows S))

/-- A decryption stage is not, in general, the inverse of the encryption stage with the same index, as the spec derives
in R201 (45_controller.md section 1). -/
def Obligations.DecryptionStageIsNotTheInverseOfItsIndex : Prop :=
  ∃ (w : Schedule) (r : Fin 11) (S : Quad), decStage w r (encStage w r S) ≠ S

/-- R202: `encryptBlock` is the stages 0 to 10 between the codec's two functions, and the source's known answer. -/
def Obligations.KnownAnswerOfTheSource : Prop :=
  (∀ (b : Block) (w : Schedule), encryptBlock b w =
    stateToBlock (encStage w 10 (encStage w 9 (encStage w 8 (encStage w 7 (encStage w 6 (encStage w 5 (encStage w 4
      (encStage w 3 (encStage w 2 (encStage w 1 (encStage w 0 (blockToState b))))))))))))) ∧
    encryptBlock
      #v[0x00, 0x11, 0x22, 0x33, 0x44, 0x55, 0x66, 0x77, 0x88, 0x99, 0xaa, 0xbb, 0xcc, 0xdd, 0xee, 0xff]
      (expandKey (keyRegisters
        #v[0x00, 0x01, 0x02, 0x03, 0x04, 0x05, 0x06, 0x07, 0x08, 0x09, 0x0a, 0x0b, 0x0c, 0x0d, 0x0e, 0x0f])) =
      #v[0x69, 0xc4, 0xe0, 0xd8, 0x6a, 0x7b, 0x04, 0x30, 0xd8, 0xcd, 0xb7, 0x80, 0x70, 0xb4, 0xc5, 0x5a]

/-- R203: `decryptBlock` is the stages 10 to 0 between the codec's two functions, and it undoes `encryptBlock` under the
same schedule: for every key's expansion, and indeed for every schedule. -/
def Obligations.DecryptUndoesEncrypt : Prop :=
  (∀ (b : Block) (w : Schedule), decryptBlock b w =
    stateToBlock (decStage w 0 (decStage w 1 (decStage w 2 (decStage w 3 (decStage w 4 (decStage w 5 (decStage w 6
      (decStage w 7 (decStage w 8 (decStage w 9 (decStage w 10 (blockToState b))))))))))))) ∧
    (∀ b key : Block, decryptBlock (encryptBlock b (expandKey (keyRegisters key))) (expandKey (keyRegisters key)) = b) ∧
    ∀ (b : Block) (w : Schedule), decryptBlock (encryptBlock b w) w = b

/-! ## The commands -/

/-- R211: NOP is the word 0 and the only legal word with OP 0, changes no state on an idle core, and is rejected with
ERR_BUSY while a command is in progress; another word with OP 0 is rejected with ERR_ILLEGAL. -/
def Obligations.NopDoesNothing : Prop :=
  encode .nop = 0 ∧
    (∀ v : Word, v.extractLsb' 0 4 = 0#4 → v ≠ 0 → (∀ i, decode v ≠ .ok i) ∧
      ∀ s : State, s.busy = false → memWrite 0 v s = .next (illegalRejected v s)) ∧
    ∀ s : State, (s.busy = false → exec .nop s = .next s) ∧
      (s.busy = true → exec .nop s = .next (busyRejected 0 0 s))

/-- KEY_EXPAND on an idle core is accepted, with W[0..3] loaded from KEY, and after its 40 steps W is the expansion of
KEY and KEY_VALID is 1, whatever the host does meanwhile short of a reset; nothing else of the state changes but what a
host access to a busy core can change (43_key_schedule.md section 2). The 40 cycles are this spec's choice (log entry 9). -/
def Obligations.KeyExpandFillsTheSchedule : Prop :=
  ∀ s : State, s.busy = false → NoReset 40 s →
    ∃ t u, exec .keyExpand s = .next t ∧
      t = { s with busy := true, done := false, opcur := 0x1, w := t.w, widx := 4, keyValid := false } ∧
      (∀ k : Fin 4, t.w[k.val] = s.key.get k) ∧ (∀ j (h : j < 44), 4 ≤ j → t.w[j] = s.w[j]) ∧
      Host.Core.run core 40 t = .next u ∧
      hostErased u = hostErased { s with
        busy := false, done := true, opcur := 0x1, w := expandKey s.key, widx := 44, keyValid := true }

/-- While KEY_EXPAND runs, the words below WIDX are already the new ones and the words from WIDX on still the old ones
(70_reset_and_hazards.md section 3). One word a cycle is this spec's choice (log entry 9). -/
def Obligations.ExpansionProceedsWordByWord : Prop :=
  ∀ (s : State) (n : Nat), s.busy = false → n < 40 → NoReset n s →
    ∃ t u, exec .keyExpand s = .next t ∧ Host.Core.run core n t = .next u ∧ u.busy = true ∧
      u.widx.toNat = n + 4 ∧ u.keyValid = false ∧
      ∀ j (h : j < 44), u.w[j] = if j < n + 4 then (expandKey s.key)[j] else s.w[j]

/-- ENCRYPT on an idle core with a valid key is accepted, and after its 11 steps STATE is the encryption of the block
it held, whatever the host does meanwhile short of a reset; the rest of the state is as it was, but for BUSY, DONE,
OPCUR, ROUND and what a host access to a busy core can change. On the way, after `n` steps, STATE is the first `n`
stages, 0 upward, of that block and ROUND is the index of the next (45_controller.md sections 1 and 3,
70_reset_and_hazards.md section 3). One stage a cycle, 11 in all, is this spec's choice (log entry 9). -/
def Obligations.EncryptCompletes : Prop :=
  ∀ s : State, s.busy = false → s.keyValid = true → NoReset 11 s →
    exec .encrypt s = .next { s with busy := true, done := false, opcur := 0x2, round := 0 } ∧
      (∀ n, n < 11 → ∃ u, Host.Core.run core n { s with busy := true, done := false, opcur := 0x2, round := 0 } = .next u ∧
        hostErased u = hostErased { s with
          busy := true
          done := false
          opcur := 0x2
          round := BitVec.ofNat 4 n
          state := ((List.finRange 11).take n).foldl (fun S r => encStage s.w r S) s.state }) ∧
      ∃ u, Host.Core.run core 11 { s with busy := true, done := false, opcur := 0x2, round := 0 } = .next u ∧
        hostErased u = hostErased { s with
          busy := false
          done := true
          opcur := 0x2
          round := 10
          state := blockToState (encryptBlock (stateToBlock s.state) s.w) }

/-- DECRYPT, likewise: STATE becomes the decryption of the block it held and ROUND ends at 0; after `n` steps STATE is the
first `n` stages, 10 downward, of that block and ROUND is the index of the next (45_controller.md sections 1 and 3,
70_reset_and_hazards.md section 3). One stage a cycle, 11 in all, is this spec's choice (log entry 9). -/
def Obligations.DecryptCompletes : Prop :=
  ∀ s : State, s.busy = false → s.keyValid = true → NoReset 11 s →
    exec .decrypt s = .next { s with busy := true, done := false, opcur := 0x3, round := 10 } ∧
      (∀ n, n < 11 → ∃ u, Host.Core.run core n { s with busy := true, done := false, opcur := 0x3, round := 10 } = .next u ∧
        hostErased u = hostErased { s with
          busy := true
          done := false
          opcur := 0x3
          round := BitVec.ofNat 4 (10 - n)
          state := ((List.finRange 11).reverse.take n).foldl (fun S r => decStage s.w r S) s.state }) ∧
      ∃ u, Host.Core.run core 11 { s with busy := true, done := false, opcur := 0x3, round := 10 } = .next u ∧
        hostErased u = hostErased { s with
          busy := false
          done := true
          opcur := 0x3
          round := 0
          state := blockToState (decryptBlock (stateToBlock s.state) s.w) }

/-- SUB_BYTES, INV_SUB_BYTES, SHIFT_ROWS, INV_SHIFT_ROWS, MIX_COLUMNS and INV_MIX_COLUMNS on an idle core, valid key or
not: accepted, and after the one step STATE is transformed and nothing else changed but BUSY, DONE, OPCUR and what a
host access to a busy core can change (44_round_transforms.md section 2). The one cycle is this spec's choice (log
entry 9). -/
def Obligations.SingleStageCommandsComplete : Prop :=
  ∀ s : State, s.busy = false → NoReset 1 s →
    OneStepCommand .subBytes { s with busy := true, done := false, opcur := 0x4 }
        { s with busy := false, done := true, opcur := 0x4, state := subBytes s.state } s ∧
      OneStepCommand .invSubBytes { s with busy := true, done := false, opcur := 0x5 }
        { s with busy := false, done := true, opcur := 0x5, state := invSubBytes s.state } s ∧
      OneStepCommand .shiftRows { s with busy := true, done := false, opcur := 0x6 }
        { s with busy := false, done := true, opcur := 0x6, state := shiftRows s.state } s ∧
      OneStepCommand .invShiftRows { s with busy := true, done := false, opcur := 0x7 }
        { s with busy := false, done := true, opcur := 0x7, state := invShiftRows s.state } s ∧
      OneStepCommand .mixColumns { s with busy := true, done := false, opcur := 0x8 }
        { s with busy := false, done := true, opcur := 0x8, state := mixColumns s.state } s ∧
      OneStepCommand .invMixColumns { s with busy := true, done := false, opcur := 0x9 }
        { s with busy := false, done := true, opcur := 0x9, state := invMixColumns s.state } s

/-- ADD_ROUND_KEY with every round 0 to 10 on an idle core with a valid key: ROUND becomes the round, and after the one
step each STATE word is XORed with its round-key word (44_round_transforms.md section 2). The one cycle is this spec's
choice (log entry 9). -/
def Obligations.AddRoundKeyCompletes : Prop :=
  ∀ (s : State) (r : Fin 11), s.busy = false → s.keyValid = true → NoReset 1 s →
    OneStepCommand (.addRoundKey (BitVec.ofNat 4 r.val))
      { s with busy := true, done := false, opcur := 0xA, round := BitVec.ofNat 4 r.val }
      { s with
        busy := false
        done := true
        opcur := 0xA
        round := BitVec.ofNat 4 r.val
        state := ⟨s.state.w0 ^^^ s.w[4 * r.val], s.state.w1 ^^^ s.w[4 * r.val + 1],
          s.state.w2 ^^^ s.w[4 * r.val + 2], s.state.w3 ^^^ s.w[4 * r.val + 3]⟩ } s

/-- SBOX, INV_SBOX and GF_MULC with each of the seven constants on an idle core: accepted, and after the one step RESULT
is the lookup or the product of OPERAND and nothing else changed but BUSY, DONE, OPCUR, for GF_MULC the latch MULC_C,
and what a host access to a busy core can change (41_tables.md section 2, 40_gf_arith.md section 2). The one cycle is
this spec's choice (log entry 9). -/
def Obligations.ByteCommandsComplete : Prop :=
  ∀ s : State, s.busy = false → NoReset 1 s →
    OneStepCommand .sbox { s with busy := true, done := false, opcur := 0xB }
        { s with busy := false, done := true, opcur := 0xB, result := sbox s.operand } s ∧
      OneStepCommand .invSbox { s with busy := true, done := false, opcur := 0xC }
        { s with busy := false, done := true, opcur := 0xC, result := invSbox s.operand } s ∧
      ∀ c ∈ [0x01#8, 0x02#8, 0x03#8, 0x09#8, 0x0B#8, 0x0D#8, 0x0E#8], ∃ b, mulc c s.operand = some b ∧
        OneStepCommand (.gfMulc c) { s with busy := true, done := false, opcur := 0xD, mulcC := c }
          { s with busy := false, done := true, opcur := 0xD, mulcC := c, result := b } s

/-- A quiet host changes nothing of the error record: over cycles with neither a reset nor a write, the error bits,
ERRINFO and ERRCMD keep their values (20_memory.md section 5, 60_exceptions.md section 1). -/
def Obligations.ErrorsStayWithoutAWrite : Prop :=
  ∀ (n : Nat) (s t : State), (∀ p ∈ s.port.take n, p.rst = false ∧ ∀ off v, p.access ≠ .write off v) →
    Host.Core.run core n s = .next t →
      t.errBusy = s.errBusy ∧ t.errIllegal = s.errIllegal ∧ t.errNoKey = s.errNoKey ∧ t.errCause = s.errCause ∧
        t.errOffset = s.errOffset ∧ t.errCmd = s.errCmd

/-- Blocks are independent: ENCRYPT and DECRYPT give the same STATE from any two idle states that agree on STATE and W,
however else they differ and whatever their hosts do short of a reset (45_controller.md section 3). The 11 cycles are this spec's choice (log entry 9). -/
def Obligations.BlockResultDependsOnStateAndScheduleOnly : Prop :=
  ∀ (i : Instr) (s₁ s₂ t₁ t₂ u₁ u₂ : State), i = .encrypt ∨ i = .decrypt →
    s₁.busy = false → s₂.busy = false → s₁.keyValid = true → s₂.keyValid = true →
    NoReset 11 s₁ → NoReset 11 s₂ → s₁.state = s₂.state → s₁.w = s₂.w →
    exec i s₁ = .next t₁ → exec i s₂ = .next t₂ →
    Host.Core.run core 11 t₁ = .next u₁ → Host.Core.run core 11 t₂ = .next u₂ → u₁.state = u₂.state

/-- The boot order of 70_reset_and_hazards.md section 2: from any idle state, writing a key, running KEY_EXPAND and
polling until BUSY reads 0, writing a block, running ENCRYPT and polling again leaves the block's encryption under that
key in STATE, with no error raised on the way. On which read a poll ends follows this spec's step counts (log entry 9). -/
def Obligations.BootOrderEncryptsTheBlock : Prop := BootOrderComputes 0x00000002 encryptBlock

/-- The boot order with DECRYPT as its block command leaves the block's decryption under the key in STATE, likewise
(70_reset_and_hazards.md section 2; log entry 9). -/
def Obligations.BootOrderDecryptsTheBlock : Prop := BootOrderComputes 0x00000003 decryptBlock
end

