-- ==== Sys2Proof/Laws/Codec.lean ====
section
/-! SUPPORT. Register arrays, byte packing and the state matrix: what a read gives after a write. -/

namespace Sys2Proof

@[simp] theorem Quad.get_set_same (q : Quad) (k : Fin 4) (v : Word) : (q.set k v).get k = v := by
  fin_cases k <;> rfl

theorem Quad.get_set_other (q : Quad) {j k : Fin 4} (v : Word) (h : j ≠ k) : (q.set k v).get j = q.get j := by
  fin_cases k <;> fin_cases j <;> first | rfl | exact absurd rfl h

/-- Two register arrays with the same four words are equal. -/
theorem Quad.ext_get {p q : Quad} (h : ∀ k, p.get k = q.get k) : p = q := by
  cases p
  cases q
  exact Quad.mk.injEq .. |>.mpr ⟨h 0, h 1, h 2, h 3⟩

namespace Machine

/-- A byte of a packed word is the byte packed there (42_state_codec.md R142). -/
theorem byteOf_pack (b : Fin 4 → Byte) (j : Fin 4) : byteOf (pack (b 0) (b 1) (b 2) (b 3)) j = b j := by
  fin_cases j <;>
    · ext i hi
      interval_cases i <;> simp [byteOf, pack]

/-- A word is the packing of its four bytes. -/
theorem pack_byteOf (w : Word) : pack (byteOf w 0) (byteOf w 1) (byteOf w 2) (byteOf w 3) = w := by
  ext i hi
  simp only [pack, byteOf, BitVec.getElem_or, BitVec.getElem_shiftLeft, BitVec.getElem_setWidth,
    BitVec.getLsbD_extractLsb']
  rcases (by omega : i < 8 ∨ (8 ≤ i ∧ i < 16) ∨ (16 ≤ i ∧ i < 24) ∨ 24 ≤ i) with h | h | h | h
  · simp [show i < 16 by omega, show i < 24 by omega, h, BitVec.getLsbD_eq_getElem hi]
  · simp [show ¬ i < 8 by omega, show i < 16 by omega, show i < 24 by omega, show i - 8 < 8 by omega,
      show 8 + (i - 8) = i by omega, hi]
  · simp [show ¬ i < 8 by omega, show ¬ i < 16 by omega, show i < 24 by omega, show ¬ i - 8 < 8 by omega,
      show i - 16 < 8 by omega, show 16 + (i - 16) = i by omega, hi]
  · simp [show ¬ i < 8 by omega, show ¬ i < 16 by omega, show ¬ i < 24 by omega, show ¬ i - 8 < 8 by omega,
      show ¬ i - 16 < 8 by omega, show i - 24 < 8 by omega, show 24 + (i - 24) = i by omega, hi]

/-- The entry `S[r][c]` of a matrix written to the registers is the entry written (R143). -/
@[simp] theorem sByte_ofMatrix (m : Fin 4 → Fin 4 → Byte) (r c : Fin 4) : sByte (ofMatrix m) r c = m r c := by
  have h := byteOf_pack (fun r => m r c) r
  fin_cases c <;> exact h

/-- Writing back the matrix the registers hold changes nothing (R143). -/
theorem ofMatrix_sByte (S : Quad) : ofMatrix (fun r c => sByte S r c) = S := by
  refine Quad.ext_get fun c => ?_
  have h := pack_byteOf (S.get c)
  fin_cases c <;> exact h

/-- Two register arrays with the same 16 matrix bytes are equal. -/
theorem quad_eq_of_sByte {S T : Quad} (h : ∀ r c, sByte S r c = sByte T r c) : S = T := by
  rw [← ofMatrix_sByte S, ← ofMatrix_sByte T]
  simp only [h]

end Machine

end Sys2Proof
end

