-- ==== Sys2Proof/Laws/Decode.lean ====
section
/-! SUPPORT. The fields of an encoded command word. -/

namespace Sys2Proof

@[simp] theorem fieldOp_enc (op rnd : BitVec 4) (c : Byte) : fieldOp (enc op rnd c) = op := by
  ext i hi
  interval_cases i <;> simp [fieldOp, enc]

@[simp] theorem fieldRnd_enc (op rnd : BitVec 4) (c : Byte) : fieldRnd (enc op rnd c) = rnd := by
  ext i hi
  interval_cases i <;> simp [fieldRnd, enc]

@[simp] theorem fieldC_enc (op rnd : BitVec 4) (c : Byte) : fieldC (enc op rnd c) = c := by
  ext i hi
  interval_cases i <;> simp [fieldC, enc]

@[simp] theorem fieldRsvd_enc (op rnd : BitVec 4) (c : Byte) : fieldRsvd (enc op rnd c) = 0 := by
  ext i hi
  interval_cases i <;> simp [fieldRsvd, enc]

end Sys2Proof
end

