-- ==== Sys2Proof/Laws/State.lean ====
section
/-! SUPPORT. One lemma per field per named update of the state, each true by unfolding, so that later proofs never unfold a record update. -/

namespace Sys2Proof.Machine

variable (s : State)

@[simp] theorem accept_key (op : BitVec 4) : (accept op s).key = s.key := rfl
@[simp] theorem accept_state (op : BitVec 4) : (accept op s).state = s.state := rfl
@[simp] theorem accept_operand (op : BitVec 4) : (accept op s).operand = s.operand := rfl
@[simp] theorem accept_result (op : BitVec 4) : (accept op s).result = s.result := rfl
@[simp] theorem accept_w (op : BitVec 4) : (accept op s).w = s.w := rfl
@[simp] theorem accept_busy (op : BitVec 4) : (accept op s).busy = true := rfl
@[simp] theorem accept_done (op : BitVec 4) : (accept op s).done = false := rfl
@[simp] theorem accept_keyValid (op : BitVec 4) : (accept op s).keyValid = s.keyValid := rfl
@[simp] theorem accept_errBusy (op : BitVec 4) : (accept op s).errBusy = s.errBusy := rfl
@[simp] theorem accept_errIllegal (op : BitVec 4) : (accept op s).errIllegal = s.errIllegal := rfl
@[simp] theorem accept_errNoKey (op : BitVec 4) : (accept op s).errNoKey = s.errNoKey := rfl
@[simp] theorem accept_round (op : BitVec 4) : (accept op s).round = s.round := rfl
@[simp] theorem accept_widx (op : BitVec 4) : (accept op s).widx = s.widx := rfl
@[simp] theorem accept_opcur (op : BitVec 4) : (accept op s).opcur = op := rfl
@[simp] theorem accept_mulcC (op : BitVec 4) : (accept op s).mulcC = s.mulcC := rfl
@[simp] theorem accept_errCause (op : BitVec 4) : (accept op s).errCause = s.errCause := rfl
@[simp] theorem accept_errOffset (op : BitVec 4) : (accept op s).errOffset = s.errOffset := rfl
@[simp] theorem accept_errCmd (op : BitVec 4) : (accept op s).errCmd = s.errCmd := rfl
@[simp] theorem accept_port (op : BitVec 4) : (accept op s).port = s.port := rfl
@[simp] theorem accept_rdata (op : BitVec 4) : (accept op s).rdata = s.rdata := rfl
@[simp] theorem accept_draws (op : BitVec 4) : (accept op s).draws = s.draws := rfl

@[simp] theorem finish_key : (finish s).key = s.key := rfl
@[simp] theorem finish_state : (finish s).state = s.state := rfl
@[simp] theorem finish_operand : (finish s).operand = s.operand := rfl
@[simp] theorem finish_result : (finish s).result = s.result := rfl
@[simp] theorem finish_w : (finish s).w = s.w := rfl
@[simp] theorem finish_busy : (finish s).busy = false := rfl
@[simp] theorem finish_done : (finish s).done = true := rfl
@[simp] theorem finish_keyValid : (finish s).keyValid = s.keyValid := rfl
@[simp] theorem finish_errBusy : (finish s).errBusy = s.errBusy := rfl
@[simp] theorem finish_errIllegal : (finish s).errIllegal = s.errIllegal := rfl
@[simp] theorem finish_errNoKey : (finish s).errNoKey = s.errNoKey := rfl
@[simp] theorem finish_round : (finish s).round = s.round := rfl
@[simp] theorem finish_widx : (finish s).widx = s.widx := rfl
@[simp] theorem finish_opcur : (finish s).opcur = s.opcur := rfl
@[simp] theorem finish_mulcC : (finish s).mulcC = s.mulcC := rfl
@[simp] theorem finish_errCause : (finish s).errCause = s.errCause := rfl
@[simp] theorem finish_errOffset : (finish s).errOffset = s.errOffset := rfl
@[simp] theorem finish_errCmd : (finish s).errCmd = s.errCmd := rfl
@[simp] theorem finish_port : (finish s).port = s.port := rfl
@[simp] theorem finish_rdata : (finish s).rdata = s.rdata := rfl
@[simp] theorem finish_draws : (finish s).draws = s.draws := rfl

@[simp] theorem clearErrors_key (v : Word) : (clearErrors v s).key = s.key := rfl
@[simp] theorem clearErrors_state (v : Word) : (clearErrors v s).state = s.state := rfl
@[simp] theorem clearErrors_operand (v : Word) : (clearErrors v s).operand = s.operand := rfl
@[simp] theorem clearErrors_result (v : Word) : (clearErrors v s).result = s.result := rfl
@[simp] theorem clearErrors_w (v : Word) : (clearErrors v s).w = s.w := rfl
@[simp] theorem clearErrors_busy (v : Word) : (clearErrors v s).busy = s.busy := rfl
@[simp] theorem clearErrors_done (v : Word) : (clearErrors v s).done = s.done := rfl
@[simp] theorem clearErrors_keyValid (v : Word) : (clearErrors v s).keyValid = s.keyValid := rfl
@[simp] theorem clearErrors_errBusy (v : Word) : (clearErrors v s).errBusy = (s.errBusy && !v.getLsbD 4) := rfl
@[simp] theorem clearErrors_errIllegal (v : Word) : (clearErrors v s).errIllegal = (s.errIllegal && !v.getLsbD 5) := rfl
@[simp] theorem clearErrors_errNoKey (v : Word) : (clearErrors v s).errNoKey = (s.errNoKey && !v.getLsbD 6) := rfl
@[simp] theorem clearErrors_round (v : Word) : (clearErrors v s).round = s.round := rfl
@[simp] theorem clearErrors_widx (v : Word) : (clearErrors v s).widx = s.widx := rfl
@[simp] theorem clearErrors_opcur (v : Word) : (clearErrors v s).opcur = s.opcur := rfl
@[simp] theorem clearErrors_mulcC (v : Word) : (clearErrors v s).mulcC = s.mulcC := rfl
@[simp] theorem clearErrors_errCause (v : Word) : (clearErrors v s).errCause = s.errCause := rfl
@[simp] theorem clearErrors_errOffset (v : Word) : (clearErrors v s).errOffset = s.errOffset := rfl
@[simp] theorem clearErrors_errCmd (v : Word) : (clearErrors v s).errCmd = s.errCmd := rfl
@[simp] theorem clearErrors_port (v : Word) : (clearErrors v s).port = s.port := rfl
@[simp] theorem clearErrors_rdata (v : Word) : (clearErrors v s).rdata = s.rdata := rfl
@[simp] theorem clearErrors_draws (v : Word) : (clearErrors v s).draws = s.draws := rfl

@[simp] theorem putState_key (S : Quad) : (putState S s).key = s.key := rfl
@[simp] theorem putState_state (S : Quad) : (putState S s).state = S := rfl
@[simp] theorem putState_operand (S : Quad) : (putState S s).operand = s.operand := rfl
@[simp] theorem putState_result (S : Quad) : (putState S s).result = s.result := rfl
@[simp] theorem putState_w (S : Quad) : (putState S s).w = s.w := rfl
@[simp] theorem putState_busy (S : Quad) : (putState S s).busy = s.busy := rfl
@[simp] theorem putState_done (S : Quad) : (putState S s).done = s.done := rfl
@[simp] theorem putState_keyValid (S : Quad) : (putState S s).keyValid = s.keyValid := rfl
@[simp] theorem putState_errBusy (S : Quad) : (putState S s).errBusy = s.errBusy := rfl
@[simp] theorem putState_errIllegal (S : Quad) : (putState S s).errIllegal = s.errIllegal := rfl
@[simp] theorem putState_errNoKey (S : Quad) : (putState S s).errNoKey = s.errNoKey := rfl
@[simp] theorem putState_round (S : Quad) : (putState S s).round = s.round := rfl
@[simp] theorem putState_widx (S : Quad) : (putState S s).widx = s.widx := rfl
@[simp] theorem putState_opcur (S : Quad) : (putState S s).opcur = s.opcur := rfl
@[simp] theorem putState_mulcC (S : Quad) : (putState S s).mulcC = s.mulcC := rfl
@[simp] theorem putState_errCause (S : Quad) : (putState S s).errCause = s.errCause := rfl
@[simp] theorem putState_errOffset (S : Quad) : (putState S s).errOffset = s.errOffset := rfl
@[simp] theorem putState_errCmd (S : Quad) : (putState S s).errCmd = s.errCmd := rfl
@[simp] theorem putState_port (S : Quad) : (putState S s).port = s.port := rfl
@[simp] theorem putState_rdata (S : Quad) : (putState S s).rdata = s.rdata := rfl
@[simp] theorem putState_draws (S : Quad) : (putState S s).draws = s.draws := rfl

@[simp] theorem putResult_key (b : Byte) : (putResult b s).key = s.key := rfl
@[simp] theorem putResult_state (b : Byte) : (putResult b s).state = s.state := rfl
@[simp] theorem putResult_operand (b : Byte) : (putResult b s).operand = s.operand := rfl
@[simp] theorem putResult_result (b : Byte) : (putResult b s).result = b := rfl
@[simp] theorem putResult_w (b : Byte) : (putResult b s).w = s.w := rfl
@[simp] theorem putResult_busy (b : Byte) : (putResult b s).busy = s.busy := rfl
@[simp] theorem putResult_done (b : Byte) : (putResult b s).done = s.done := rfl
@[simp] theorem putResult_keyValid (b : Byte) : (putResult b s).keyValid = s.keyValid := rfl
@[simp] theorem putResult_errBusy (b : Byte) : (putResult b s).errBusy = s.errBusy := rfl
@[simp] theorem putResult_errIllegal (b : Byte) : (putResult b s).errIllegal = s.errIllegal := rfl
@[simp] theorem putResult_errNoKey (b : Byte) : (putResult b s).errNoKey = s.errNoKey := rfl
@[simp] theorem putResult_round (b : Byte) : (putResult b s).round = s.round := rfl
@[simp] theorem putResult_widx (b : Byte) : (putResult b s).widx = s.widx := rfl
@[simp] theorem putResult_opcur (b : Byte) : (putResult b s).opcur = s.opcur := rfl
@[simp] theorem putResult_mulcC (b : Byte) : (putResult b s).mulcC = s.mulcC := rfl
@[simp] theorem putResult_errCause (b : Byte) : (putResult b s).errCause = s.errCause := rfl
@[simp] theorem putResult_errOffset (b : Byte) : (putResult b s).errOffset = s.errOffset := rfl
@[simp] theorem putResult_errCmd (b : Byte) : (putResult b s).errCmd = s.errCmd := rfl
@[simp] theorem putResult_port (b : Byte) : (putResult b s).port = s.port := rfl
@[simp] theorem putResult_rdata (b : Byte) : (putResult b s).rdata = s.rdata := rfl
@[simp] theorem putResult_draws (b : Byte) : (putResult b s).draws = s.draws := rfl

@[simp] theorem putRound_key (r : BitVec 4) : (putRound r s).key = s.key := rfl
@[simp] theorem putRound_state (r : BitVec 4) : (putRound r s).state = s.state := rfl
@[simp] theorem putRound_operand (r : BitVec 4) : (putRound r s).operand = s.operand := rfl
@[simp] theorem putRound_result (r : BitVec 4) : (putRound r s).result = s.result := rfl
@[simp] theorem putRound_w (r : BitVec 4) : (putRound r s).w = s.w := rfl
@[simp] theorem putRound_busy (r : BitVec 4) : (putRound r s).busy = s.busy := rfl
@[simp] theorem putRound_done (r : BitVec 4) : (putRound r s).done = s.done := rfl
@[simp] theorem putRound_keyValid (r : BitVec 4) : (putRound r s).keyValid = s.keyValid := rfl
@[simp] theorem putRound_errBusy (r : BitVec 4) : (putRound r s).errBusy = s.errBusy := rfl
@[simp] theorem putRound_errIllegal (r : BitVec 4) : (putRound r s).errIllegal = s.errIllegal := rfl
@[simp] theorem putRound_errNoKey (r : BitVec 4) : (putRound r s).errNoKey = s.errNoKey := rfl
@[simp] theorem putRound_round (r : BitVec 4) : (putRound r s).round = r := rfl
@[simp] theorem putRound_widx (r : BitVec 4) : (putRound r s).widx = s.widx := rfl
@[simp] theorem putRound_opcur (r : BitVec 4) : (putRound r s).opcur = s.opcur := rfl
@[simp] theorem putRound_mulcC (r : BitVec 4) : (putRound r s).mulcC = s.mulcC := rfl
@[simp] theorem putRound_errCause (r : BitVec 4) : (putRound r s).errCause = s.errCause := rfl
@[simp] theorem putRound_errOffset (r : BitVec 4) : (putRound r s).errOffset = s.errOffset := rfl
@[simp] theorem putRound_errCmd (r : BitVec 4) : (putRound r s).errCmd = s.errCmd := rfl
@[simp] theorem putRound_port (r : BitVec 4) : (putRound r s).port = s.port := rfl
@[simp] theorem putRound_rdata (r : BitVec 4) : (putRound r s).rdata = s.rdata := rfl
@[simp] theorem putRound_draws (r : BitVec 4) : (putRound r s).draws = s.draws := rfl

@[simp] theorem putMulc_key (c : Byte) : (putMulc c s).key = s.key := rfl
@[simp] theorem putMulc_state (c : Byte) : (putMulc c s).state = s.state := rfl
@[simp] theorem putMulc_operand (c : Byte) : (putMulc c s).operand = s.operand := rfl
@[simp] theorem putMulc_result (c : Byte) : (putMulc c s).result = s.result := rfl
@[simp] theorem putMulc_w (c : Byte) : (putMulc c s).w = s.w := rfl
@[simp] theorem putMulc_busy (c : Byte) : (putMulc c s).busy = s.busy := rfl
@[simp] theorem putMulc_done (c : Byte) : (putMulc c s).done = s.done := rfl
@[simp] theorem putMulc_keyValid (c : Byte) : (putMulc c s).keyValid = s.keyValid := rfl
@[simp] theorem putMulc_errBusy (c : Byte) : (putMulc c s).errBusy = s.errBusy := rfl
@[simp] theorem putMulc_errIllegal (c : Byte) : (putMulc c s).errIllegal = s.errIllegal := rfl
@[simp] theorem putMulc_errNoKey (c : Byte) : (putMulc c s).errNoKey = s.errNoKey := rfl
@[simp] theorem putMulc_round (c : Byte) : (putMulc c s).round = s.round := rfl
@[simp] theorem putMulc_widx (c : Byte) : (putMulc c s).widx = s.widx := rfl
@[simp] theorem putMulc_opcur (c : Byte) : (putMulc c s).opcur = s.opcur := rfl
@[simp] theorem putMulc_mulcC (c : Byte) : (putMulc c s).mulcC = c := rfl
@[simp] theorem putMulc_errCause (c : Byte) : (putMulc c s).errCause = s.errCause := rfl
@[simp] theorem putMulc_errOffset (c : Byte) : (putMulc c s).errOffset = s.errOffset := rfl
@[simp] theorem putMulc_errCmd (c : Byte) : (putMulc c s).errCmd = s.errCmd := rfl
@[simp] theorem putMulc_port (c : Byte) : (putMulc c s).port = s.port := rfl
@[simp] theorem putMulc_rdata (c : Byte) : (putMulc c s).rdata = s.rdata := rfl
@[simp] theorem putMulc_draws (c : Byte) : (putMulc c s).draws = s.draws := rfl

@[simp] theorem startExpansion_key : (startExpansion s).key = s.key := rfl
@[simp] theorem startExpansion_state : (startExpansion s).state = s.state := rfl
@[simp] theorem startExpansion_operand : (startExpansion s).operand = s.operand := rfl
@[simp] theorem startExpansion_result : (startExpansion s).result = s.result := rfl
@[simp] theorem startExpansion_w : (startExpansion s).w = loadKey s.key s.w := rfl
@[simp] theorem startExpansion_busy : (startExpansion s).busy = s.busy := rfl
@[simp] theorem startExpansion_done : (startExpansion s).done = s.done := rfl
@[simp] theorem startExpansion_keyValid : (startExpansion s).keyValid = false := rfl
@[simp] theorem startExpansion_errBusy : (startExpansion s).errBusy = s.errBusy := rfl
@[simp] theorem startExpansion_errIllegal : (startExpansion s).errIllegal = s.errIllegal := rfl
@[simp] theorem startExpansion_errNoKey : (startExpansion s).errNoKey = s.errNoKey := rfl
@[simp] theorem startExpansion_round : (startExpansion s).round = s.round := rfl
@[simp] theorem startExpansion_widx : (startExpansion s).widx = 4 := rfl
@[simp] theorem startExpansion_opcur : (startExpansion s).opcur = s.opcur := rfl
@[simp] theorem startExpansion_mulcC : (startExpansion s).mulcC = s.mulcC := rfl
@[simp] theorem startExpansion_errCause : (startExpansion s).errCause = s.errCause := rfl
@[simp] theorem startExpansion_errOffset : (startExpansion s).errOffset = s.errOffset := rfl
@[simp] theorem startExpansion_errCmd : (startExpansion s).errCmd = s.errCmd := rfl
@[simp] theorem startExpansion_port : (startExpansion s).port = s.port := rfl
@[simp] theorem startExpansion_rdata : (startExpansion s).rdata = s.rdata := rfl
@[simp] theorem startExpansion_draws : (startExpansion s).draws = s.draws := rfl

@[simp] theorem putScheduleWord_key (i : Nat) (h : 4 ≤ i ∧ i < 44) : (putScheduleWord i h s).key = s.key := rfl
@[simp] theorem putScheduleWord_state (i : Nat) (h : 4 ≤ i ∧ i < 44) : (putScheduleWord i h s).state = s.state := rfl
@[simp] theorem putScheduleWord_operand (i : Nat) (h : 4 ≤ i ∧ i < 44) : (putScheduleWord i h s).operand = s.operand := rfl
@[simp] theorem putScheduleWord_result (i : Nat) (h : 4 ≤ i ∧ i < 44) : (putScheduleWord i h s).result = s.result := rfl
@[simp] theorem putScheduleWord_w (i : Nat) (h : 4 ≤ i ∧ i < 44) : (putScheduleWord i h s).w = expandWord s.w i h := rfl
@[simp] theorem putScheduleWord_busy (i : Nat) (h : 4 ≤ i ∧ i < 44) : (putScheduleWord i h s).busy = s.busy := rfl
@[simp] theorem putScheduleWord_done (i : Nat) (h : 4 ≤ i ∧ i < 44) : (putScheduleWord i h s).done = s.done := rfl
@[simp] theorem putScheduleWord_keyValid (i : Nat) (h : 4 ≤ i ∧ i < 44) : (putScheduleWord i h s).keyValid = s.keyValid := rfl
@[simp] theorem putScheduleWord_errBusy (i : Nat) (h : 4 ≤ i ∧ i < 44) : (putScheduleWord i h s).errBusy = s.errBusy := rfl
@[simp] theorem putScheduleWord_errIllegal (i : Nat) (h : 4 ≤ i ∧ i < 44) : (putScheduleWord i h s).errIllegal = s.errIllegal := rfl
@[simp] theorem putScheduleWord_errNoKey (i : Nat) (h : 4 ≤ i ∧ i < 44) : (putScheduleWord i h s).errNoKey = s.errNoKey := rfl
@[simp] theorem putScheduleWord_round (i : Nat) (h : 4 ≤ i ∧ i < 44) : (putScheduleWord i h s).round = s.round := rfl
@[simp] theorem putScheduleWord_widx (i : Nat) (h : 4 ≤ i ∧ i < 44) : (putScheduleWord i h s).widx = BitVec.ofNat 6 (i + 1) := rfl
@[simp] theorem putScheduleWord_opcur (i : Nat) (h : 4 ≤ i ∧ i < 44) : (putScheduleWord i h s).opcur = s.opcur := rfl
@[simp] theorem putScheduleWord_mulcC (i : Nat) (h : 4 ≤ i ∧ i < 44) : (putScheduleWord i h s).mulcC = s.mulcC := rfl
@[simp] theorem putScheduleWord_errCause (i : Nat) (h : 4 ≤ i ∧ i < 44) : (putScheduleWord i h s).errCause = s.errCause := rfl
@[simp] theorem putScheduleWord_errOffset (i : Nat) (h : 4 ≤ i ∧ i < 44) : (putScheduleWord i h s).errOffset = s.errOffset := rfl
@[simp] theorem putScheduleWord_errCmd (i : Nat) (h : 4 ≤ i ∧ i < 44) : (putScheduleWord i h s).errCmd = s.errCmd := rfl
@[simp] theorem putScheduleWord_port (i : Nat) (h : 4 ≤ i ∧ i < 44) : (putScheduleWord i h s).port = s.port := rfl
@[simp] theorem putScheduleWord_rdata (i : Nat) (h : 4 ≤ i ∧ i < 44) : (putScheduleWord i h s).rdata = s.rdata := rfl
@[simp] theorem putScheduleWord_draws (i : Nat) (h : 4 ≤ i ∧ i < 44) : (putScheduleWord i h s).draws = s.draws := rfl

@[simp] theorem validateKey_key : (validateKey s).key = s.key := rfl
@[simp] theorem validateKey_state : (validateKey s).state = s.state := rfl
@[simp] theorem validateKey_operand : (validateKey s).operand = s.operand := rfl
@[simp] theorem validateKey_result : (validateKey s).result = s.result := rfl
@[simp] theorem validateKey_w : (validateKey s).w = s.w := rfl
@[simp] theorem validateKey_busy : (validateKey s).busy = s.busy := rfl
@[simp] theorem validateKey_done : (validateKey s).done = s.done := rfl
@[simp] theorem validateKey_keyValid : (validateKey s).keyValid = true := rfl
@[simp] theorem validateKey_errBusy : (validateKey s).errBusy = s.errBusy := rfl
@[simp] theorem validateKey_errIllegal : (validateKey s).errIllegal = s.errIllegal := rfl
@[simp] theorem validateKey_errNoKey : (validateKey s).errNoKey = s.errNoKey := rfl
@[simp] theorem validateKey_round : (validateKey s).round = s.round := rfl
@[simp] theorem validateKey_widx : (validateKey s).widx = s.widx := rfl
@[simp] theorem validateKey_opcur : (validateKey s).opcur = s.opcur := rfl
@[simp] theorem validateKey_mulcC : (validateKey s).mulcC = s.mulcC := rfl
@[simp] theorem validateKey_errCause : (validateKey s).errCause = s.errCause := rfl
@[simp] theorem validateKey_errOffset : (validateKey s).errOffset = s.errOffset := rfl
@[simp] theorem validateKey_errCmd : (validateKey s).errCmd = s.errCmd := rfl
@[simp] theorem validateKey_port : (validateKey s).port = s.port := rfl
@[simp] theorem validateKey_rdata : (validateKey s).rdata = s.rdata := rfl
@[simp] theorem validateKey_draws : (validateKey s).draws = s.draws := rfl

@[simp] theorem raise_key (e : Rejection) (off : BitVec 10) (v : Word) : (raise e off v s).key = s.key := rfl
@[simp] theorem raise_state (e : Rejection) (off : BitVec 10) (v : Word) : (raise e off v s).state = s.state := rfl
@[simp] theorem raise_operand (e : Rejection) (off : BitVec 10) (v : Word) : (raise e off v s).operand = s.operand := rfl
@[simp] theorem raise_result (e : Rejection) (off : BitVec 10) (v : Word) : (raise e off v s).result = s.result := rfl
@[simp] theorem raise_w (e : Rejection) (off : BitVec 10) (v : Word) : (raise e off v s).w = s.w := rfl
@[simp] theorem raise_busy (e : Rejection) (off : BitVec 10) (v : Word) : (raise e off v s).busy = s.busy := rfl
@[simp] theorem raise_done (e : Rejection) (off : BitVec 10) (v : Word) : (raise e off v s).done = s.done := rfl
@[simp] theorem raise_keyValid (e : Rejection) (off : BitVec 10) (v : Word) : (raise e off v s).keyValid = s.keyValid := rfl
@[simp] theorem raise_errBusy (e : Rejection) (off : BitVec 10) (v : Word) : (raise e off v s).errBusy = (s.errBusy || decide (e = .errBusy)) := rfl
@[simp] theorem raise_errIllegal (e : Rejection) (off : BitVec 10) (v : Word) : (raise e off v s).errIllegal = (s.errIllegal || decide (e = .errIllegal)) := rfl
@[simp] theorem raise_errNoKey (e : Rejection) (off : BitVec 10) (v : Word) : (raise e off v s).errNoKey = (s.errNoKey || decide (e = .errNoKey)) := rfl
@[simp] theorem raise_round (e : Rejection) (off : BitVec 10) (v : Word) : (raise e off v s).round = s.round := rfl
@[simp] theorem raise_widx (e : Rejection) (off : BitVec 10) (v : Word) : (raise e off v s).widx = s.widx := rfl
@[simp] theorem raise_opcur (e : Rejection) (off : BitVec 10) (v : Word) : (raise e off v s).opcur = s.opcur := rfl
@[simp] theorem raise_mulcC (e : Rejection) (off : BitVec 10) (v : Word) : (raise e off v s).mulcC = s.mulcC := rfl
@[simp] theorem raise_errCause (e : Rejection) (off : BitVec 10) (v : Word) : (raise e off v s).errCause = e.code := rfl
@[simp] theorem raise_errOffset (e : Rejection) (off : BitVec 10) (v : Word) : (raise e off v s).errOffset = off := rfl
@[simp] theorem raise_errCmd (e : Rejection) (off : BitVec 10) (v : Word) : (raise e off v s).errCmd = v := rfl
@[simp] theorem raise_port (e : Rejection) (off : BitVec 10) (v : Word) : (raise e off v s).port = s.port := rfl
@[simp] theorem raise_rdata (e : Rejection) (off : BitVec 10) (v : Word) : (raise e off v s).rdata = s.rdata := rfl
@[simp] theorem raise_draws (e : Rejection) (off : BitVec 10) (v : Word) : (raise e off v s).draws = s.draws := rfl

@[simp] theorem putOperand_key (v : Word) : (putOperand v s).key = s.key := rfl
@[simp] theorem putOperand_state (v : Word) : (putOperand v s).state = s.state := rfl
@[simp] theorem putOperand_operand (v : Word) : (putOperand v s).operand = v.extractLsb' 0 8 := rfl
@[simp] theorem putOperand_result (v : Word) : (putOperand v s).result = s.result := rfl
@[simp] theorem putOperand_w (v : Word) : (putOperand v s).w = s.w := rfl
@[simp] theorem putOperand_busy (v : Word) : (putOperand v s).busy = s.busy := rfl
@[simp] theorem putOperand_done (v : Word) : (putOperand v s).done = s.done := rfl
@[simp] theorem putOperand_keyValid (v : Word) : (putOperand v s).keyValid = s.keyValid := rfl
@[simp] theorem putOperand_errBusy (v : Word) : (putOperand v s).errBusy = s.errBusy := rfl
@[simp] theorem putOperand_errIllegal (v : Word) : (putOperand v s).errIllegal = s.errIllegal := rfl
@[simp] theorem putOperand_errNoKey (v : Word) : (putOperand v s).errNoKey = s.errNoKey := rfl
@[simp] theorem putOperand_round (v : Word) : (putOperand v s).round = s.round := rfl
@[simp] theorem putOperand_widx (v : Word) : (putOperand v s).widx = s.widx := rfl
@[simp] theorem putOperand_opcur (v : Word) : (putOperand v s).opcur = s.opcur := rfl
@[simp] theorem putOperand_mulcC (v : Word) : (putOperand v s).mulcC = s.mulcC := rfl
@[simp] theorem putOperand_errCause (v : Word) : (putOperand v s).errCause = s.errCause := rfl
@[simp] theorem putOperand_errOffset (v : Word) : (putOperand v s).errOffset = s.errOffset := rfl
@[simp] theorem putOperand_errCmd (v : Word) : (putOperand v s).errCmd = s.errCmd := rfl
@[simp] theorem putOperand_port (v : Word) : (putOperand v s).port = s.port := rfl
@[simp] theorem putOperand_rdata (v : Word) : (putOperand v s).rdata = s.rdata := rfl
@[simp] theorem putOperand_draws (v : Word) : (putOperand v s).draws = s.draws := rfl

@[simp] theorem putKeyWord_key (k : Fin 4) (v : Word) : (putKeyWord k v s).key = s.key.set k v := rfl
@[simp] theorem putKeyWord_state (k : Fin 4) (v : Word) : (putKeyWord k v s).state = s.state := rfl
@[simp] theorem putKeyWord_operand (k : Fin 4) (v : Word) : (putKeyWord k v s).operand = s.operand := rfl
@[simp] theorem putKeyWord_result (k : Fin 4) (v : Word) : (putKeyWord k v s).result = s.result := rfl
@[simp] theorem putKeyWord_w (k : Fin 4) (v : Word) : (putKeyWord k v s).w = s.w := rfl
@[simp] theorem putKeyWord_busy (k : Fin 4) (v : Word) : (putKeyWord k v s).busy = s.busy := rfl
@[simp] theorem putKeyWord_done (k : Fin 4) (v : Word) : (putKeyWord k v s).done = s.done := rfl
@[simp] theorem putKeyWord_keyValid (k : Fin 4) (v : Word) : (putKeyWord k v s).keyValid = false := rfl
@[simp] theorem putKeyWord_errBusy (k : Fin 4) (v : Word) : (putKeyWord k v s).errBusy = s.errBusy := rfl
@[simp] theorem putKeyWord_errIllegal (k : Fin 4) (v : Word) : (putKeyWord k v s).errIllegal = s.errIllegal := rfl
@[simp] theorem putKeyWord_errNoKey (k : Fin 4) (v : Word) : (putKeyWord k v s).errNoKey = s.errNoKey := rfl
@[simp] theorem putKeyWord_round (k : Fin 4) (v : Word) : (putKeyWord k v s).round = s.round := rfl
@[simp] theorem putKeyWord_widx (k : Fin 4) (v : Word) : (putKeyWord k v s).widx = s.widx := rfl
@[simp] theorem putKeyWord_opcur (k : Fin 4) (v : Word) : (putKeyWord k v s).opcur = s.opcur := rfl
@[simp] theorem putKeyWord_mulcC (k : Fin 4) (v : Word) : (putKeyWord k v s).mulcC = s.mulcC := rfl
@[simp] theorem putKeyWord_errCause (k : Fin 4) (v : Word) : (putKeyWord k v s).errCause = s.errCause := rfl
@[simp] theorem putKeyWord_errOffset (k : Fin 4) (v : Word) : (putKeyWord k v s).errOffset = s.errOffset := rfl
@[simp] theorem putKeyWord_errCmd (k : Fin 4) (v : Word) : (putKeyWord k v s).errCmd = s.errCmd := rfl
@[simp] theorem putKeyWord_port (k : Fin 4) (v : Word) : (putKeyWord k v s).port = s.port := rfl
@[simp] theorem putKeyWord_rdata (k : Fin 4) (v : Word) : (putKeyWord k v s).rdata = s.rdata := rfl
@[simp] theorem putKeyWord_draws (k : Fin 4) (v : Word) : (putKeyWord k v s).draws = s.draws := rfl

@[simp] theorem putStateWord_key (c : Fin 4) (v : Word) : (putStateWord c v s).key = s.key := rfl
@[simp] theorem putStateWord_state (c : Fin 4) (v : Word) : (putStateWord c v s).state = s.state.set c v := rfl
@[simp] theorem putStateWord_operand (c : Fin 4) (v : Word) : (putStateWord c v s).operand = s.operand := rfl
@[simp] theorem putStateWord_result (c : Fin 4) (v : Word) : (putStateWord c v s).result = s.result := rfl
@[simp] theorem putStateWord_w (c : Fin 4) (v : Word) : (putStateWord c v s).w = s.w := rfl
@[simp] theorem putStateWord_busy (c : Fin 4) (v : Word) : (putStateWord c v s).busy = s.busy := rfl
@[simp] theorem putStateWord_done (c : Fin 4) (v : Word) : (putStateWord c v s).done = s.done := rfl
@[simp] theorem putStateWord_keyValid (c : Fin 4) (v : Word) : (putStateWord c v s).keyValid = s.keyValid := rfl
@[simp] theorem putStateWord_errBusy (c : Fin 4) (v : Word) : (putStateWord c v s).errBusy = s.errBusy := rfl
@[simp] theorem putStateWord_errIllegal (c : Fin 4) (v : Word) : (putStateWord c v s).errIllegal = s.errIllegal := rfl
@[simp] theorem putStateWord_errNoKey (c : Fin 4) (v : Word) : (putStateWord c v s).errNoKey = s.errNoKey := rfl
@[simp] theorem putStateWord_round (c : Fin 4) (v : Word) : (putStateWord c v s).round = s.round := rfl
@[simp] theorem putStateWord_widx (c : Fin 4) (v : Word) : (putStateWord c v s).widx = s.widx := rfl
@[simp] theorem putStateWord_opcur (c : Fin 4) (v : Word) : (putStateWord c v s).opcur = s.opcur := rfl
@[simp] theorem putStateWord_mulcC (c : Fin 4) (v : Word) : (putStateWord c v s).mulcC = s.mulcC := rfl
@[simp] theorem putStateWord_errCause (c : Fin 4) (v : Word) : (putStateWord c v s).errCause = s.errCause := rfl
@[simp] theorem putStateWord_errOffset (c : Fin 4) (v : Word) : (putStateWord c v s).errOffset = s.errOffset := rfl
@[simp] theorem putStateWord_errCmd (c : Fin 4) (v : Word) : (putStateWord c v s).errCmd = s.errCmd := rfl
@[simp] theorem putStateWord_port (c : Fin 4) (v : Word) : (putStateWord c v s).port = s.port := rfl
@[simp] theorem putStateWord_rdata (c : Fin 4) (v : Word) : (putStateWord c v s).rdata = s.rdata := rfl
@[simp] theorem putStateWord_draws (c : Fin 4) (v : Word) : (putStateWord c v s).draws = s.draws := rfl

@[simp] theorem tick_key (rd : Word) : (tick rd s).key = s.key := rfl
@[simp] theorem tick_state (rd : Word) : (tick rd s).state = s.state := rfl
@[simp] theorem tick_operand (rd : Word) : (tick rd s).operand = s.operand := rfl
@[simp] theorem tick_result (rd : Word) : (tick rd s).result = s.result := rfl
@[simp] theorem tick_w (rd : Word) : (tick rd s).w = s.w := rfl
@[simp] theorem tick_busy (rd : Word) : (tick rd s).busy = s.busy := rfl
@[simp] theorem tick_done (rd : Word) : (tick rd s).done = s.done := rfl
@[simp] theorem tick_keyValid (rd : Word) : (tick rd s).keyValid = s.keyValid := rfl
@[simp] theorem tick_errBusy (rd : Word) : (tick rd s).errBusy = s.errBusy := rfl
@[simp] theorem tick_errIllegal (rd : Word) : (tick rd s).errIllegal = s.errIllegal := rfl
@[simp] theorem tick_errNoKey (rd : Word) : (tick rd s).errNoKey = s.errNoKey := rfl
@[simp] theorem tick_round (rd : Word) : (tick rd s).round = s.round := rfl
@[simp] theorem tick_widx (rd : Word) : (tick rd s).widx = s.widx := rfl
@[simp] theorem tick_opcur (rd : Word) : (tick rd s).opcur = s.opcur := rfl
@[simp] theorem tick_mulcC (rd : Word) : (tick rd s).mulcC = s.mulcC := rfl
@[simp] theorem tick_errCause (rd : Word) : (tick rd s).errCause = s.errCause := rfl
@[simp] theorem tick_errOffset (rd : Word) : (tick rd s).errOffset = s.errOffset := rfl
@[simp] theorem tick_errCmd (rd : Word) : (tick rd s).errCmd = s.errCmd := rfl
@[simp] theorem tick_port (rd : Word) : (tick rd s).port = s.port.tail := rfl
@[simp] theorem tick_rdata (rd : Word) : (tick rd s).rdata = rd := rfl
@[simp] theorem tick_draws (rd : Word) : (tick rd s).draws = s.draws := rfl

@[simp] theorem resetCycle_key : (resetCycle s).key = Quad.zero := rfl
@[simp] theorem resetCycle_state : (resetCycle s).state = Quad.zero := rfl
@[simp] theorem resetCycle_operand : (resetCycle s).operand = 0 := rfl
@[simp] theorem resetCycle_result : (resetCycle s).result = 0 := rfl
@[simp] theorem resetCycle_w : (resetCycle s).w = drawW s.draws := rfl
@[simp] theorem resetCycle_busy : (resetCycle s).busy = false := rfl
@[simp] theorem resetCycle_done : (resetCycle s).done = false := rfl
@[simp] theorem resetCycle_keyValid : (resetCycle s).keyValid = false := rfl
@[simp] theorem resetCycle_errBusy : (resetCycle s).errBusy = false := rfl
@[simp] theorem resetCycle_errIllegal : (resetCycle s).errIllegal = false := rfl
@[simp] theorem resetCycle_errNoKey : (resetCycle s).errNoKey = false := rfl
@[simp] theorem resetCycle_round : (resetCycle s).round = 0 := rfl
@[simp] theorem resetCycle_widx : (resetCycle s).widx = 0 := rfl
@[simp] theorem resetCycle_opcur : (resetCycle s).opcur = 0 := rfl
@[simp] theorem resetCycle_mulcC : (resetCycle s).mulcC = 0 := rfl
@[simp] theorem resetCycle_errCause : (resetCycle s).errCause = 0 := rfl
@[simp] theorem resetCycle_errOffset : (resetCycle s).errOffset = 0 := rfl
@[simp] theorem resetCycle_errCmd : (resetCycle s).errCmd = 0 := rfl
@[simp] theorem resetCycle_port : (resetCycle s).port = s.port.tail := rfl
@[simp] theorem resetCycle_rdata : (resetCycle s).rdata = 0 := rfl
@[simp] theorem resetCycle_draws : (resetCycle s).draws = s.draws + 1 := rfl

end Sys2Proof.Machine
end

