-- ==== Sys2Proof/Laws/Ops.lean ====
section
/-! SUPPORT. What each shared operation can do, said once: the command check, issuing a command, the controller's step. -/

namespace Sys2Proof.Machine

@[simp] theorem andThen_next (s : State) (f : State → Host.Outcome State Fault Refusal) :
    andThen (.next s) f = f s := rfl

/-- A composition answers a next state only by way of a next state of its first part. -/
theorem andThen_eq_next {o : Host.Outcome State Fault Refusal} {f : State → Host.Outcome State Fault Refusal}
    {t : State} : andThen o f = .next t ↔ ∃ s, o = .next s ∧ f s = .next t := by
  cases o <;> simp [andThen]

theorem commandCheck_busy (v : Word) {s : State} (h : s.busy = true) : commandCheck v s = some .errBusy := by
  simp [commandCheck, h]

theorem commandCheck_illegal {v : Word} {s : State} (h : s.busy = false) (hv : (illegalClass v).isSome = true) :
    commandCheck v s = some .errIllegal := by
  simp [commandCheck, h, hv]

theorem commandCheck_noKey {v : Word} {s : State} (h : s.busy = false) (hv : illegalClass v = none)
    (hn : needsSchedule v = true) (hk : s.keyValid = false) : commandCheck v s = some .errNoKey := by
  simp [commandCheck, h, hv, hn, hk]

/-- A legal word passes every check of an idle core, where it needs no key or the key is valid. -/
theorem commandCheck_pass {v : Word} {s : State} (h : s.busy = false) (hv : illegalClass v = none)
    (hk : needsSchedule v = true → s.keyValid = true) : commandCheck v s = none := by
  cases hn : needsSchedule v <;> simp_all [commandCheck]

/-- Passing every check says the core is idle, the word legal and the key valid where it is needed. -/
theorem commandCheck_eq_none {v : Word} {s : State} : commandCheck v s = none ↔
    s.busy = false ∧ illegalClass v = none ∧ (needsSchedule v = true → s.keyValid = true) := by
  refine ⟨fun h => ?_, fun ⟨h, hv, hk⟩ => commandCheck_pass h hv hk⟩
  cases hb : s.busy <;> cases hv : illegalClass v <;> cases hn : needsSchedule v <;>
    cases hk : s.keyValid <;> simp_all [commandCheck]

theorem issue_reject {v : Word} {act : State → State} {s : State} {e : Rejection}
    (h : commandCheck v s = some e) : issue v act s = .next (raise e 0 v s) := by
  simp [issue, h]

theorem issue_accept {v : Word} {act : State → State} {s : State} (h : commandCheck v s = none) :
    issue v act s = .next (act s) := by
  simp [issue, h]

/-- Issuing a command always answers a next state: the rejected one or the accepted one. -/
theorem issue_cases (v : Word) (act : State → State) (s : State) :
    (∃ e, commandCheck v s = some e ∧ issue v act s = .next (raise e 0 v s)) ∨
      (commandCheck v s = none ∧ issue v act s = .next (act s)) := by
  cases h : commandCheck v s with
  | none => exact .inr ⟨rfl, issue_accept h⟩
  | some e => exact .inl ⟨e, rfl, issue_reject h⟩

/-- The round index exists exactly where ROUND is at most 10 (10_state.md R29). -/
theorem roundIndex_eq_some {s : State} {r : Fin 11} : roundIndex s = some r ↔ s.round.toNat = r.val := by
  unfold roundIndex
  split
  · rw [Option.some.injEq, Fin.ext_iff]
  · have := r.isLt
    simp only [reduceCtorEq, false_iff]
    omega

/-- The states a controller step can answer, with the position it was taken at (45_controller.md R206). -/
inductive ControllerMove (s : State) : State → Prop where
  /-- A word of the schedule that is not the last. -/
  | scheduleWord (h : 4 ≤ s.widx.toNat ∧ s.widx.toNat < 44) (hop : s.opcur = 0x1#4) (hi : s.widx.toNat ≠ 43) :
      ControllerMove s (putScheduleWord s.widx.toNat h s)
  /-- The last word of the schedule. -/
  | lastWord (h : 4 ≤ s.widx.toNat ∧ s.widx.toNat < 44) (hop : s.opcur = 0x1#4) (hi : s.widx.toNat = 43) :
      ControllerMove s (finish (validateKey (putScheduleWord s.widx.toNat h s)))
  /-- A stage of ENCRYPT or DECRYPT that is not the last. -/
  | stage (S : Quad) (r : BitVec 4) (hr : s.round.toNat ≤ 10) (hr' : r.toNat ≤ 10)
      (hop : s.opcur = 0x2#4 ∨ s.opcur = 0x3#4) : ControllerMove s (putRound r (putState S s))
  /-- The end of a command that writes STATE. -/
  | block (S : Quad) (hop : 0x2 ≤ s.opcur.toNat ∧ s.opcur.toNat ≤ 0xA) :
      ControllerMove s (finish (putState S s))
  /-- The end of a command that writes BYTE_IO.RESULT. -/
  | byte (b : Byte) (hop : 0xB ≤ s.opcur.toNat ∧ s.opcur.toNat ≤ 0xD) :
      ControllerMove s (finish (putResult b s))

/-- Inversion of the controller's step: a next state is one of the moves of `ControllerMove`. -/
theorem controllerStep_move {s t : State} (h : controllerStep s = .next t) : ControllerMove s t := by
  have hop (n : Nat) (hn : n < 16) (ho : s.opcur.toNat = n) : s.opcur = BitVec.ofNat 4 n := by
    apply BitVec.eq_of_toNat_eq
    simp [ho]
    omega
  unfold controllerStep at h
  split at h
  · rename_i ho
    unfold stepKeyExpand at h
    split at h
    · rename_i hw
      simp only at h
      split at h
      · cases h
        exact .lastWord hw (hop 1 (by omega) ho) ‹_›
      · cases h
        exact .scheduleWord hw (hop 1 (by omega) ho) ‹_›
    · cases h
  · rename_i ho
    unfold stepEncrypt at h
    split at h
    · rename_i r hr
      have hr' := roundIndex_eq_some.mp hr
      have := r.isLt
      simp only at h
      split at h
      · cases h
        exact .block _ (by omega)
      · cases h
        exact .stage _ _ (by omega) (by simp [BitVec.toNat_add]; omega) (.inl (hop 2 (by omega) ho))
    · cases h
  · rename_i ho
    unfold stepDecrypt at h
    split at h
    · rename_i r hr
      have hr' := roundIndex_eq_some.mp hr
      have := r.isLt
      simp only at h
      split at h
      · cases h
        exact .block _ (by omega)
      · cases h
        exact .stage _ _ (by omega) (by simp [BitVec.toNat_sub]; omega) (.inr (hop 3 (by omega) ho))
    · cases h
  iterate 6
    · cases h
      exact .block _ (by omega)
  · unfold stepAddRoundKey at h
    split at h
    · cases h
      exact .block _ (by omega)
    · cases h
  iterate 2
    · cases h
      exact .byte _ (by omega)
  · unfold stepGfMulc at h
    split at h
    · cases h
      exact .byte _ (by omega)
    · cases h
  · cases h

/-! The controller's step of the command in progress, by OPCUR (R206). -/

variable {s : State}

theorem controllerStep_keyExpand (h : s.opcur = 0x1#4) : controllerStep s = stepKeyExpand s := by
  simp [controllerStep, h]

theorem controllerStep_encrypt (h : s.opcur = 0x2#4) : controllerStep s = stepEncrypt s := by
  simp [controllerStep, h]

theorem controllerStep_decrypt (h : s.opcur = 0x3#4) : controllerStep s = stepDecrypt s := by
  simp [controllerStep, h]

theorem controllerStep_subBytes (h : s.opcur = 0x4#4) : controllerStep s = stepSubBytes s := by
  simp [controllerStep, h]

theorem controllerStep_invSubBytes (h : s.opcur = 0x5#4) : controllerStep s = stepInvSubBytes s := by
  simp [controllerStep, h]

theorem controllerStep_shiftRows (h : s.opcur = 0x6#4) : controllerStep s = stepShiftRows s := by
  simp [controllerStep, h]

theorem controllerStep_invShiftRows (h : s.opcur = 0x7#4) : controllerStep s = stepInvShiftRows s := by
  simp [controllerStep, h]

theorem controllerStep_mixColumns (h : s.opcur = 0x8#4) : controllerStep s = stepMixColumns s := by
  simp [controllerStep, h]

theorem controllerStep_invMixColumns (h : s.opcur = 0x9#4) : controllerStep s = stepInvMixColumns s := by
  simp [controllerStep, h]

theorem controllerStep_addRoundKey (h : s.opcur = 0xA#4) : controllerStep s = stepAddRoundKey s := by
  simp [controllerStep, h]

theorem controllerStep_sbox (h : s.opcur = 0xB#4) : controllerStep s = stepSbox s := by
  simp [controllerStep, h]

theorem controllerStep_invSbox (h : s.opcur = 0xC#4) : controllerStep s = stepInvSbox s := by
  simp [controllerStep, h]

theorem controllerStep_gfMulc (h : s.opcur = 0xD#4) : controllerStep s = stepGfMulc s := by
  simp [controllerStep, h]

/-! The address map at the offsets that have a name (20_memory.md R52). -/

theorem registerAt_cmd : registerAt 0 = .cmd := by decide
theorem registerAt_status : registerAt 1 = .status := by decide
theorem registerAt_byteIo : registerAt 4 = .byteIo := by decide
theorem registerAt_key (k : Fin 4) : registerAt (BitVec.ofNat 10 (0x020 / 4 + k.val)) = .key k := by
  revert k
  decide
theorem registerAt_state (c : Fin 4) : registerAt (BitVec.ofNat 10 (0x030 / 4 + c.val)) = .state c := by
  revert c
  decide
theorem registerAt_w (i : Fin 44) : registerAt (BitVec.ofNat 10 (0x100 / 4 + i.val)) = .w i := by
  revert i
  decide

end Sys2Proof.Machine
end

