-- ==== Sys2Proof/Laws/PerInstr.lean ====
section
/-! SUPPORT. One lemma per command: the fields of its command word are its opcode and its operands (30_encoding.md R70, R76). -/

namespace Sys2Proof.Laws.EncodedFields

/-- The four fields of the command word of `i`. -/
def Statement (i : Instr) : Prop :=
  fieldOp (encode i) = i.opcode ∧ fieldRnd (encode i) = i.rnd ∧ fieldC (encode i) = i.constant ∧
    fieldRsvd (encode i) = 0

theorem of_enc (i : Instr) : Statement i := ⟨by simp [encode], by simp [encode], by simp [encode], by simp [encode]⟩

theorem nop : Statement .nop := of_enc _
theorem keyExpand : Statement .keyExpand := of_enc _
theorem encrypt : Statement .encrypt := of_enc _
theorem decrypt : Statement .decrypt := of_enc _
theorem subBytes : Statement .subBytes := of_enc _
theorem invSubBytes : Statement .invSubBytes := of_enc _
theorem shiftRows : Statement .shiftRows := of_enc _
theorem invShiftRows : Statement .invShiftRows := of_enc _
theorem mixColumns : Statement .mixColumns := of_enc _
theorem invMixColumns : Statement .invMixColumns := of_enc _
theorem addRoundKey (rnd : BitVec 4) : Statement (.addRoundKey rnd) := of_enc _
theorem sbox : Statement .sbox := of_enc _
theorem invSbox : Statement .invSbox := of_enc _
theorem gfMulc (c : Byte) : Statement (.gfMulc c) := of_enc _

end Sys2Proof.Laws.EncodedFields
end

