-- ==== Sys2Proof/Laws/Step.lean ====
section
/-! SUPPORT. What a host access and a whole cycle can do, said once, so that a proof about every step is a short case analysis. -/

namespace Sys2Proof.Machine

/-- What acceptance of each command does (45_controller.md R205 with each command's own part). -/
def acceptance (i : Instr) (s : State) : State :=
  match i with
  | .nop => s
  | .keyExpand => startExpansion (accept 0x1#4 s)
  | .encrypt => putRound 0 (accept 0x2#4 s)
  | .decrypt => putRound 10 (accept 0x3#4 s)
  | .subBytes => accept 0x4#4 s
  | .invSubBytes => accept 0x5#4 s
  | .shiftRows => accept 0x6#4 s
  | .invShiftRows => accept 0x7#4 s
  | .mixColumns => accept 0x8#4 s
  | .invMixColumns => accept 0x9#4 s
  | .addRoundKey rnd => putRound rnd (accept 0xA#4 s)
  | .sbox => accept 0xB#4 s
  | .invSbox => accept 0xC#4 s
  | .gfMulc c => putMulc c (accept 0xD#4 s)

/-- Every meaning is the shared issue of its word with its own acceptance. -/
theorem exec_eq_issue (i : Instr) (s : State) : exec i s = issue (encode i) (acceptance i) s := by
  cases i <;> rfl

/-- A command that the checks let through is accepted. -/
theorem exec_accept {i : Instr} {s : State} (h : commandCheck (encode i) s = none) :
    exec i s = .next (acceptance i s) := by
  rw [exec_eq_issue, issue_accept h]

/-- A command that a check stops is rejected with that check's cause. -/
theorem exec_reject {i : Instr} {s : State} {e : Rejection} (h : commandCheck (encode i) s = some e) :
    exec i s = .next (raise e 0 (encode i) s) := by
  rw [exec_eq_issue, issue_reject h]

/-- What a host access `a` can make of a state (20_memory.md R57, R58; 45_controller.md R205). -/
inductive HostMove (a : HostAccess) (s : State) : State → Prop where
  /-- A read, an idle bus, a write to a read-only or reserved offset. -/
  | quiet : HostMove a s s
  /-- A STATUS write. -/
  | cleared (off : BitVec 10) (v : Word) (ha : a = .write off v) (hr : registerAt off = .status) :
      HostMove a s (clearErrors v s)
  /-- A rejected write. -/
  | rejected (off : BitVec 10) (v : Word) (e : Rejection) (o : BitVec 10) (u : Word) (ha : a = .write off v) :
      HostMove a s (raise e o u s)
  /-- A command that passes every check; NOP among them. -/
  | accepted (off : BitVec 10) (v : Word) (i : Instr) (ha : a = .write off v) (hr : registerAt off = .cmd)
      (hd : decode v = .ok i) (h : commandCheck (encode i) s = none) : HostMove a s (acceptance i s)
  | operand (off : BitVec 10) (v : Word) (ha : a = .write off v) (hr : registerAt off = .byteIo)
      (h : s.busy = false) : HostMove a s (putOperand v s)
  | keyWord (off : BitVec 10) (v : Word) (k : Fin 4) (ha : a = .write off v) (hr : registerAt off = .key k)
      (h : s.busy = false) : HostMove a s (putKeyWord k v s)
  | stateWord (off : BitVec 10) (v : Word) (c : Fin 4) (ha : a = .write off v) (hr : registerAt off = .state c)
      (h : s.busy = false) : HostMove a s (putStateWord c v s)

/-- A guarded write is carried out on an idle core and rejected on a busy one. -/
theorem guardedWrite_cases (off : BitVec 10) (v : Word) (act : State → State) (s : State) :
    (s.busy = true ∧ guardedWrite off v act s = raise .errBusy off v s) ∨
      (s.busy = false ∧ guardedWrite off v act s = act s) := by
  cases h : s.busy <;> simp [guardedWrite, h]

/-- The host's part of a cycle always answers a next state, one of the moves of `HostMove`. -/
theorem hostAccess_move (a : HostAccess) (s : State) : ∃ t, hostAccess a s = .next t ∧ HostMove a s t := by
  cases a with
  | idle => exact ⟨_, rfl, .quiet⟩
  | read off => exact ⟨_, rfl, .quiet⟩
  | write off v =>
    rw [show hostAccess (.write off v) s = memWrite off v s from rfl]
    unfold memWrite
    split
    · rename_i hr
      unfold commandWrite
      split
      · rename_i i hd
        cases h : commandCheck (encode i) s with
        | none => exact ⟨_, exec_accept h, .accepted off v i rfl hr hd h⟩
        | some e => exact ⟨_, exec_reject h, .rejected off v e 0 _ rfl⟩
      · exact ⟨_, rfl, .rejected off v _ 0 v rfl⟩
    · exact ⟨_, rfl, .cleared off v rfl ‹_›⟩
    · exact ⟨_, rfl, .quiet⟩
    · exact ⟨_, rfl, .quiet⟩
    · obtain ⟨_, h⟩ | ⟨hb, h⟩ := guardedWrite_cases off v (putOperand v) s <;> rw [h]
      · exact ⟨_, rfl, .rejected off v _ off v rfl⟩
      · exact ⟨_, rfl, .operand off v rfl ‹_› hb⟩
    · rename_i k _
      obtain ⟨_, h⟩ | ⟨hb, h⟩ := guardedWrite_cases off v (putKeyWord k v) s <;> rw [h]
      · exact ⟨_, rfl, .rejected off v _ off v rfl⟩
      · exact ⟨_, rfl, .keyWord off v k rfl ‹_› hb⟩
    · rename_i c _
      obtain ⟨_, h⟩ | ⟨hb, h⟩ := guardedWrite_cases off v (putStateWord c v) s <;> rw [h]
      · exact ⟨_, rfl, .rejected off v _ off v rfl⟩
      · exact ⟨_, rfl, .stateWord off v c rfl ‹_› hb⟩
    · exact ⟨_, rfl, .quiet⟩
    · exact ⟨_, rfl, .quiet⟩

/-- In a reset cycle the step is the reset (20_memory.md R62). -/
theorem step_reset {s : State} (h : s.pins.rst = true) : step s = .next (resetCycle s) := by
  simp [step, cycle, h]

/-- With no command in progress the step is the host's access (R62). -/
theorem step_idle {s : State} (h : s.pins.rst = false) (hb : s.busy = false) :
    step s = hostAccess s.pins.access (tick (busReadData s.pins s) s) := by
  obtain ⟨t, ht, -⟩ := hostAccess_move s.pins.access (tick (busReadData s.pins s) s)
  simp [step, cycle, h, hb, ht]

/-- With a command in progress the step is the host's access and then the controller's step (R62). -/
theorem step_busy {s : State} (h : s.pins.rst = false) (hb : s.busy = true) :
    step s = andThen (hostAccess s.pins.access (tick (busReadData s.pins s) s)) controllerStep := by
  simp [step, cycle, h, hb]

/-- Inversion of the step: a reset, or a host move and, where the core was busy, a controller move after it. -/
theorem step_move {s t : State} (h : step s = .next t) :
    (s.pins.rst = true ∧ t = resetCycle s) ∨
      (s.pins.rst = false ∧ ∃ u, HostMove s.pins.access (tick (busReadData s.pins s) s) u ∧
        ((s.busy = false ∧ t = u) ∨ (s.busy = true ∧ ControllerMove u t))) := by
  cases hr : s.pins.rst with
  | true =>
    rw [step_reset hr] at h
    cases h
    exact .inl ⟨rfl, rfl⟩
  | false =>
    obtain ⟨u, hu, hm⟩ := hostAccess_move s.pins.access (tick (busReadData s.pins s) s)
    refine .inr ⟨rfl, u, hm, ?_⟩
    cases hb : s.busy with
    | false =>
      rw [step_idle hr hb, hu] at h
      cases h
      exact .inl ⟨rfl, rfl⟩
    | true =>
      rw [step_busy hr hb, hu, andThen_next] at h
      exact .inr ⟨rfl, controllerStep_move h⟩

/-- A run goes on from the next state of its first step. -/
theorem run_succ {s t : State} (h : step s = .next t) (n : Nat) :
    Host.Core.run core (n + 1) s = Host.Core.run core n t := by
  simp [Host.Core.run, show core.step s = .next t from h]

end Sys2Proof.Machine
end

