-- ==== Sys2Proof/Machine/HostNotation.lean ====
section
/-! DEFINITION. The host-program notation and its pseudo-instructions (30_encoding.md R77, R78), as bus cycles the host drives. The host is outside the core: these definitions only say which cycles a statement stands for. -/

namespace Sys2Proof.Machine

/-- The word offset `off(reg)` of a register that has a name (20_memory.md R52); a reserved offset has none. -/
def wordOffset (r : Register) : Option (BitVec 10) :=
  match r with
  | .cmd => some (0x000 / 4)
  | .status => some (0x004 / 4)
  | .errinfo => some (0x008 / 4)
  | .errcmd => some (0x00C / 4)
  | .byteIo => some (0x010 / 4)
  | .key k => some (BitVec.ofNat 10 (0x020 / 4 + k.val))
  | .state c => some (BitVec.ofNat 10 (0x030 / 4 + c.val))
  | .w i => some (BitVec.ofNat 10 (0x100 / 4 + i.val))
  | .reserved => none

/-- A statement of the notation, pseudo-instructions aside (R77), and POLL (R78). -/
inductive HostStmt where
  /-- `WR <reg>, <value>`. -/
  | wr (r : Register) (v : Word)
  /-- `RD <reg>`. -/
  | rd (r : Register)
  /-- `IDLE <n>`. -/
  | idle (n : Nat)
  /-- `POLL`: read STATUS until BUSY reads 0. -/
  | poll
  deriving DecidableEq, Repr

/-- A host that has run part of its program: the core, and the values its reads returned, oldest first. -/
structure HostRun where
  machine : State
  reads : List Word
  deriving DecidableEq, Repr

/-- One cycle of the core with the pins the host drives. -/
def drive (p : BusCycle) (h : HostRun) : Option HostRun :=
  match step { h.machine with port := [p] } with
  | .next t => some { h with machine := t }
  | .fault _ => none
  | .refused _ => none

/-- Keep the value the last cycle's read returned. -/
def keepRead (h : HostRun) : HostRun := { h with reads := h.reads ++ [h.machine.rdata] }

/-- `n` cycles with no host access. -/
def driveIdle (n : Nat) (h : HostRun) : Option HostRun :=
  match n with
  | 0 => some h
  | n + 1 => (drive idleCycle h).bind (driveIdle n)

/-- Read STATUS until bit 0 of the value read is 0, for at most `fuel` reads. -/
def drivePoll (fuel : Nat) (h : HostRun) : Option HostRun :=
  match fuel with
  | 0 => none
  | fuel + 1 =>
    (drive (readCycle 1) h).bind fun g =>
      if g.machine.rdata.getLsbD 0 then drivePoll fuel (keepRead g) else some (keepRead g)

/-- One statement: each runs in its own cycle, in order (R77). -/
def runStmt (fuel : Nat) (st : HostStmt) (h : HostRun) : Option HostRun :=
  match st with
  | .wr r v => (wordOffset r).bind fun off => drive (writeCycle off v) h
  | .rd r => (wordOffset r).bind fun off => (drive (readCycle off) h).map keepRead
  | .idle n => driveIdle n h
  | .poll => drivePoll fuel h

/-- A host program, with a bound on the reads of each POLL. -/
def runHost (fuel : Nat) (prog : List HostStmt) (h : HostRun) : Option HostRun :=
  match prog with
  | [] => some h
  | st :: rest => (runStmt fuel st h).bind (runHost fuel rest)

/-- `CMD <mnemonic> [operand]` (R78). -/
def cmdStmt (i : Instr) : List HostStmt := [.wr .cmd (encode i)]

/-- `GF_DOUBLE` is `GF_MULC 0x02` (R78). -/
def gfDouble : Instr := .gfMulc 0x02#8

/-- `CLRERR` (R78). -/
def clrErr : List HostStmt := [.wr .status 0x00000070#32]

/-- `LOADKEY k0, k1, k2, k3` (R78). -/
def loadKeyStmts (K : Quad) : List HostStmt :=
  [.wr (.key 0) K.w0, .wr (.key 1) K.w1, .wr (.key 2) K.w2, .wr (.key 3) K.w3]

/-- `LOADBLK s0, s1, s2, s3` (R78). -/
def loadBlkStmts (S : Quad) : List HostStmt :=
  [.wr (.state 0) S.w0, .wr (.state 1) S.w1, .wr (.state 2) S.w2, .wr (.state 3) S.w3]

/-- `READBLK` (R78). -/
def readBlkStmts : List HostStmt := [.rd (.state 0), .rd (.state 1), .rd (.state 2), .rd (.state 3)]

/-- `SETKEY k0, k1, k2, k3` (R78). -/
def setKeyStmts (K : Quad) : List HostStmt := loadKeyStmts K ++ cmdStmt .keyExpand ++ [.poll]

end Sys2Proof.Machine
end

