-- ==== Sys2Proof/Tests/Slice0.lean ====
section
/-! SUPPORT. The model's own tests: ill-formed terms, words written out field by field, one step of each command with values from 95_test_vectors.md, and for each statement with hypotheses a state that meets them. -/

namespace Sys2Proof.Tests

open Sys2Proof Sys2Proof.Machine

/-! ## Well-formedness: an ill-formed term for each check (30_encoding.md R71) -/

theorem test_wellFormed_refuses_round_11 : (Instr.addRoundKey 11).wellFormed = false := by decide
theorem test_wellFormed_accepts_round_10 : (Instr.addRoundKey 10).wellFormed = true := by decide
theorem test_wellFormed_refuses_constant_4 : (Instr.gfMulc 0x04).wellFormed = false := by decide
theorem test_wellFormed_refuses_constant_0 : (Instr.gfMulc 0x00).wellFormed = false := by decide

/-! ## Decoding: each command's word written out as RSVD, C, RND, OP (R70, R72) -/

theorem test_decode_nop : decode (0#16 ++ 0x00#8 ++ 0x0#4 ++ 0x0#4) = .ok .nop := by rfl
theorem test_decode_keyExpand : decode (0#16 ++ 0x00#8 ++ 0x0#4 ++ 0x1#4) = .ok .keyExpand := by rfl
theorem test_decode_encrypt : decode (0#16 ++ 0x00#8 ++ 0x0#4 ++ 0x2#4) = .ok .encrypt := by rfl
theorem test_decode_decrypt : decode (0#16 ++ 0x00#8 ++ 0x0#4 ++ 0x3#4) = .ok .decrypt := by rfl
theorem test_decode_subBytes : decode (0#16 ++ 0x00#8 ++ 0x0#4 ++ 0x4#4) = .ok .subBytes := by rfl
theorem test_decode_invSubBytes : decode (0#16 ++ 0x00#8 ++ 0x0#4 ++ 0x5#4) = .ok .invSubBytes := by rfl
theorem test_decode_shiftRows : decode (0#16 ++ 0x00#8 ++ 0x0#4 ++ 0x6#4) = .ok .shiftRows := by rfl
theorem test_decode_invShiftRows : decode (0#16 ++ 0x00#8 ++ 0x0#4 ++ 0x7#4) = .ok .invShiftRows := by rfl
theorem test_decode_mixColumns : decode (0#16 ++ 0x00#8 ++ 0x0#4 ++ 0x8#4) = .ok .mixColumns := by rfl
theorem test_decode_invMixColumns : decode (0#16 ++ 0x00#8 ++ 0x0#4 ++ 0x9#4) = .ok .invMixColumns := by rfl
theorem test_decode_addRoundKey : decode (0#16 ++ 0x00#8 ++ 0x7#4 ++ 0xA#4) = .ok (.addRoundKey 7) := by rfl
theorem test_decode_sbox : decode (0#16 ++ 0x00#8 ++ 0x0#4 ++ 0xB#4) = .ok .sbox := by rfl
theorem test_decode_invSbox : decode (0#16 ++ 0x00#8 ++ 0x0#4 ++ 0xC#4) = .ok .invSbox := by rfl
theorem test_decode_gfMulc : decode (0#16 ++ 0x0D#8 ++ 0x0#4 ++ 0xD#4) = .ok (.gfMulc 0x0D) := by rfl

/-- The illegal words of 95_test_vectors.md section 2.11, one for each class of R74. -/
theorem test_decode_names_the_class :
    decode 0x0000000E = .error .reservedOpcode ∧ decode 0x0000000F = .error .reservedOpcode ∧
      decode 0x000000BA = .error .rndTooLarge ∧ decode 0x00000012 = .error .rndNonzero ∧
      decode 0x0000040D = .error .constantUnsupported ∧ decode 0x0000010B = .error .constantNonzero ∧
      decode 0x80000000 = .error .rsvdNonzero := ⟨rfl, rfl, rfl, rfl, rfl, rfl, rfl⟩

/-- The encodings of R78's examples. -/
theorem test_encode_words : encode .encrypt = 0x00000002 ∧ encode (.addRoundKey 10) = 0x000000AA ∧
    encode gfDouble = 0x0000020D := by decide

/-- The examples of R100, R150, R151 and R152. -/
theorem test_rule_examples : double 0x57 = 0xAE ∧ double 0x80 = 0x1B ∧ double 0xFF = 0xE5 ∧ double 0x00 = 0x00 ∧
    rotWord 0x09CF4F3C = 0xCF4F3C09 ∧ subWord 0xCF4F3C09 = 0x8A84EB01 ∧ rconXor 0x8A84EB01 0 = 0x8B84EB01 := by decide

/-! ## States the tests start from -/

/-- The outcome is a next state that passes the test `p`. -/
def nextSat (o : Host.Outcome State Fault Refusal) (p : State → Bool) : Bool :=
  match o with
  | .next t => p t
  | .fault _ => false
  | .refused _ => false

/-- An idle core with no key expanded and, unlike after reset, zeros in W. -/
def idle0 : State := { State.reset with w := Vector.replicate 44 0 }

/-- `idle0` in the middle of the command with opcode `op`. -/
def busy0 (op : BitVec 4) : State := { idle0 with busy := true, opcur := op }

/-- The block 000102...0f, as STATE or KEY holds it. -/
def countingBlock : Quad := ⟨0x00010203, 0x04050607, 0x08090A0B, 0x0C0D0E0F⟩

/-- `idle0` with the expansion of the zero key in W. -/
def keyed0 : State := { idle0 with w := expandKey Quad.zero, keyValid := true }

/-- The pins of a reset cycle. -/
def resetPins : BusCycle := { idleCycle with rst := true }

/-! ## One step of each command, values from 95_test_vectors.md sections 2.1 to 2.9 -/

theorem test_step_keyExpand : nextSat (controllerStep
    { busy0 0x1 with w := loadKey countingBlock (Vector.replicate 44 0), widx := 4 })
    (fun t => t.w[4] == 0xD6AA74FD && t.widx == 5 && t.busy) = true := by decide

theorem test_step_keyExpand_last : nextSat (controllerStep
    { busy0 0x1 with w := ((Vector.replicate 44 0).set 39 0xBE2C974E).set 42 0xF307A78B, widx := 43 })
    (fun t => t.w[43] == 0x4D2B30C5 && t.widx == 44 && t.keyValid && !t.busy && t.done) = true := by
  decide

theorem test_step_encrypt : nextSat (controllerStep
    { busy0 0x2 with
      round := 1
      state := ⟨0x00102030, 0x40506070, 0x8090A0B0, 0xC0D0E0F0⟩
      w := ((((Vector.replicate 44 0).set 4 0xD6AA74FD).set 5 0xD2AF72FA).set 6 0xDAA678F1).set 7 0xD6AB76FE })
    (fun t => t.state == ⟨0x89D810E8, 0x855ACE68, 0x2D1843D8, 0xCB128FE4⟩ && t.round == 2 && t.busy) = true := by
  decide

theorem test_step_decrypt : nextSat (controllerStep
    { busy0 0x3 with
      round := 0
      state := ⟨0x6353E08C, 0x0960E104, 0xCD70B751, 0xBACAD0E7⟩
      w := loadKey countingBlock (Vector.replicate 44 0) })
    (fun t => t.state == ⟨0x00112233, 0x44556677, 0x8899AABB, 0xCCDDEEFF⟩ && t.round == 0 && !t.busy) = true := by
  decide

theorem test_step_subBytes : nextSat (controllerStep { busy0 0x4 with state := countingBlock })
    (fun t => t.state == ⟨0x637C777B, 0xF26B6FC5, 0x3001672B, 0xFED7AB76⟩ && !t.busy && t.done) = true := by decide

theorem test_step_invSubBytes : nextSat (controllerStep { busy0 0x5 with state := countingBlock })
    (fun t => t.state == ⟨0x52096AD5, 0x3036A538, 0xBF40A39E, 0x81F3D7FB⟩) = true := by decide

theorem test_step_shiftRows : nextSat (controllerStep { busy0 0x6 with state := countingBlock })
    (fun t => t.state == ⟨0x00050A0F, 0x04090E03, 0x080D0207, 0x0C01060B⟩) = true := by decide

theorem test_step_invShiftRows : nextSat (controllerStep { busy0 0x7 with state := countingBlock })
    (fun t => t.state == ⟨0x000D0A07, 0x04010E0B, 0x0805020F, 0x0C090603⟩) = true := by decide

theorem test_step_mixColumns : nextSat (controllerStep
    { busy0 0x8 with state := ⟨0xDB135345, 0xF20A225C, 0x80000000, 0x01000000⟩ })
    (fun t => t.state == ⟨0x8E4DA1BC, 0x9FDC589D, 0x1B80809B, 0x02010103⟩) = true := by decide

theorem test_step_invMixColumns : nextSat (controllerStep
    { busy0 0x9 with state := ⟨0x8E4DA1BC, 0xF20A225C, 0x80000000, 0x01000000⟩ })
    (fun t => t.state == ⟨0xDB135345, 0xAEC36982, 0x41ECDAF7, 0x0E090D0B⟩) = true := by decide

theorem test_step_addRoundKey : nextSat (controllerStep
    { busy0 0xA with
      state := ⟨0x00112233, 0x44556677, 0x8899AABB, 0xCCDDEEFF⟩
      w := loadKey countingBlock (Vector.replicate 44 0) })
    (fun t => t.state == ⟨0x00102030, 0x40506070, 0x8090A0B0, 0xC0D0E0F0⟩) = true := by decide

theorem test_step_sbox : nextSat (controllerStep { busy0 0xB with operand := 0x53 })
    (fun t => byteIoWord t == 0x0000ED53) = true := by decide

theorem test_step_invSbox : nextSat (controllerStep { busy0 0xC with operand := 0xED })
    (fun t => byteIoWord t == 0x000053ED) = true := by decide

theorem test_step_gfMulc : nextSat (controllerStep { busy0 0xD with operand := 0x57, mulcC := 0x0E })
    (fun t => byteIoWord t == 0x00006757) = true := by decide

/-! ## Acceptance, rejection, STATUS (95_test_vectors.md sections 2.12 and 2.13) -/

theorem test_exec_nop_keeps_status : nextSat (exec .nop { idle0 with opcur := 0x2, round := 10, widx := 44, done := true, keyValid := true })
    (fun t => statusWord t == 0x022C0A06) = true := by decide

theorem test_exec_keyExpand_status : nextSat (exec .keyExpand { idle0 with key := countingBlock })
    (fun t => statusWord t == 0x01040001 && t.w[3] == 0x0C0D0E0F) = true := by decide

theorem test_exec_encrypt_no_key : nextSat (exec .encrypt State.reset)
    (fun t => statusWord t == 0x00000040 && errinfoWord t == 0x00000003 && t.errCmd == 0x00000002) = true := by decide

theorem test_exec_decrypt_starts_at_round_10 : nextSat (exec .decrypt { idle0 with keyValid := true, widx := 44 })
    (fun t => statusWord t == 0x032C0A05) = true := by decide

theorem test_exec_addRoundKey_sets_round : nextSat (exec (.addRoundKey 1) { idle0 with keyValid := true, widx := 44 })
    (fun t => statusWord t == 0x0A2C0105) = true := by decide

theorem test_exec_gfMulc_latches_constant : nextSat (exec (.gfMulc 0x02) State.reset)
    (fun t => statusWord t == 0x0D000001 && t.mulcC == 0x02) = true := by decide

theorem test_illegal_word_rejected : nextSat (memWrite 0 0x00000012 State.reset)
    (fun t => statusWord t == 0x00000020 && errinfoWord t == 0x00000002 && t.errCmd == 0x00000012) = true := by decide

theorem test_busy_key_write_rejected : nextSat (memWrite 8 0xFFFFFFFF (busy0 0x1))
    (fun t => t.errBusy && errinfoWord t == 0x00000021 && t.errCmd == 0xFFFFFFFF && t.key == Quad.zero) = true := by decide

theorem test_byteIo_write_masks : nextSat (memWrite 4 0xFFFFFF80 State.reset)
    (fun t => byteIoWord t == 0x00000080) = true := by decide

theorem test_w_write_ignored : nextSat (memWrite 69 1 idle0) (fun t => decide (t = idle0)) = true := by decide

/-- The collision of 95_test_vectors.md section 2.12: a NOP written in the cycle of the 40th step of KEY_EXPAND. -/
theorem test_nop_in_the_last_step : nextSat (step { busy0 0x1 with widx := 43, port := [writeCycle 0 0] })
    (fun t => statusWord t == 0x012C0016 && errinfoWord t == 0x00000001) = true := by decide

/-- The word at the host's entry point runs as the first command after reset. -/
theorem test_withFetchWord : nextSat (step (State.reset.withFetchWord 32 0x00000004))
    (fun t => statusWord t == 0x04000001) = true := by decide

/-- The word offsets of the notation are the map's (20_memory.md R52). -/
theorem test_wordOffset_of_named_registers :
    (wordOffset (.key 3)).map registerAt = some (.key 3) ∧ (wordOffset (.w 43)).map registerAt = some (.w 43) ∧
      (wordOffset .byteIo).map registerAt = some .byteIo := by decide

/-- One statement of the notation: `WR BYTE_IO, 0x53` on an idle core (R77). -/
theorem test_host_write_statement :
    (runStmt 1 (.wr .byteIo 0x53) ⟨idle0, []⟩).map (fun h => h.machine.operand) = some 0x53 := by decide

/-! ## Witnesses: for each statement with hypotheses, states and operands that meet them -/

theorem next_of_sat {o : Host.Outcome State Fault Refusal} {p : State → Bool} (h : nextSat o p = true) :
    ∃ t, o = .next t ∧ p t = true := by
  cases o <;> simp_all [nextSat]

/-- `idle0` and `keyed0` with the bus cycles `ps` to come. -/
def idleWith (ps : List BusCycle) : State := { idle0 with port := ps }

/-- See `idleWith`. -/
def keyedWith (ps : List BusCycle) : State := { keyed0 with port := ps }

theorem witness_DecodeAndEncodeAgree :
    (Instr.addRoundKey 10).wellFormed = true ∧ (Instr.gfMulc 0x0E).wellFormed = true ∧
      encode (.addRoundKey 10) = 0x000000AA ∧ decode 0x00000E0D = .ok (.gfMulc 0x0E) := ⟨rfl, rfl, rfl, rfl⟩

theorem witness_EncodingFunctionRebuildsTheThirtyLegalWords :
    decode 0x000000AA = .ok (.addRoundKey 10) ∧ (Instr.gfMulc 0x0E).opcode ≠ 0xA#4 ∧
      (Instr.addRoundKey 10).opcode ≠ 0xD#4 ∧ 10 ≤ 10 ∧ 0x0E ∈ [0x01, 0x02, 0x03, 0x09, 0x0B, 0x0D, 0x0E] :=
  ⟨rfl, by decide, by decide, by decide, by decide⟩

theorem witness_StepRunsTheDecodedCommand :
    (∃ s : State, s.port = [writeCycle 0 0x00000002] ∧ decode 0x00000002 = .ok .encrypt ∧ s.busy = false) ∧
      (∃ s : State, s.port = [writeCycle 0 0x00000002] ∧ decode 0x00000002 = .ok .encrypt ∧ s.busy = true) ∧
      (∃ s : State, s.port = [writeCycle 4 0x53] ∧ s.busy = false) ∧
      (∃ s : State, s.port = [writeCycle 1 0x70] ∧ s.busy = true) ∧
      (∃ (s : State) (p : BusCycle), s.port = [p] ∧ p.rst = false ∧ p.valid = false ∧ p.write = true ∧ s.busy = false) ∧
      ∃ (s : State) (p : BusCycle), s.port = [p] ∧ p.rst = false ∧ p.valid = false ∧ p.write = true ∧ s.busy = true :=
  ⟨⟨idleWith [writeCycle 0 2], rfl, rfl, rfl⟩, ⟨{ busy0 0x4 with port := [writeCycle 0 2] }, rfl, rfl, rfl⟩,
    ⟨idleWith [writeCycle 4 0x53], rfl, rfl⟩, ⟨{ busy0 0x4 with port := [writeCycle 1 0x70] }, rfl, rfl⟩,
    ⟨idleWith [{ writeCycle 0 1 with valid := false }], _, rfl, rfl, rfl, rfl, rfl⟩,
    ⟨{ busy0 0x4 with port := [{ writeCycle 0 1 with valid := false }] }, _, rfl, rfl, rfl, rfl, rfl⟩⟩

/-- A BYTE_IO write reaches the state through a whole step. -/
theorem test_step_byteIo_write : nextSat (step (idleWith [writeCycle 4 0x53]))
    (fun t => byteIoWord t == 0x00000053 && t.rdata == 0) = true := by decide

theorem witness_IdleCoreKeepsItsState :
    (keyedWith [idleCycle, { writeCycle 0 1 with valid := false }, writeCycle 0 1]).busy = false ∧
      (∀ p ∈ (keyedWith [idleCycle, { writeCycle 0 1 with valid := false }, writeCycle 0 1]).port.take (1 + 1),
        p.rst = false ∧ p.valid = false) ∧
      ∀ p ∈ keyed0.port.take (1 + 1), p.rst = false ∧ p.valid = false := by
  refine ⟨rfl, ?_, ?_⟩ <;> simp [keyedWith, keyed0, idle0, State.reset, idleCycle, writeCycle]

theorem witness_ReadReturnsTheRegisterWithoutSideEffect :
    (∃ s : State, s.busy = true ∧ s.port = [{ readCycle 12 with wdata := 5 }]) ∧
      (∃ off : BitVec 10, 0x014 ≤ 4 * off.toNat ∧ 4 * off.toNat ≤ 0x01C) ∧
      (∃ off : BitVec 10, 0x040 ≤ 4 * off.toNat ∧ 4 * off.toNat ≤ 0x0FC) ∧
      ∃ off : BitVec 10, 0x1B0 ≤ 4 * off.toNat :=
  ⟨⟨{ busy0 0x2 with port := [{ readCycle 12 with wdata := 5 }] }, rfl, rfl⟩, ⟨5, by decide⟩, ⟨63, by decide⟩, ⟨108, by decide⟩⟩

theorem witness_HostWriteActsByRegister :
    (∃ off : BitVec 10, 4 * off.toNat = 0x008) ∧ (∃ off : BitVec 10, 4 * off.toNat = 0x00C) ∧
      (∃ off : BitVec 10, 0x014 ≤ 4 * off.toNat ∧ 4 * off.toNat ≤ 0x01C) ∧
      ∃ off : BitVec 10, 0x040 ≤ 4 * off.toNat :=
  ⟨⟨2, by decide⟩, ⟨3, by decide⟩, ⟨7, by decide⟩, ⟨16, by decide⟩⟩

theorem witness_WriteWhileBusyIsRejected :
    (busy0 0x2).busy = true ∧ (∃ off : BitVec 10, off.toNat = 0) ∧ (∃ off : BitVec 10, off.toNat = 4) ∧
      (∃ off : BitVec 10, 8 ≤ off.toNat ∧ off.toNat ≤ 15) ∧
      ∃ t, memWrite 15 0 (busy0 0x2) = .next t ∧ (!(busy0 0x2).errBusy && t.errBusy) = true :=
  ⟨rfl, ⟨0, rfl⟩, ⟨4, rfl⟩, ⟨15, by decide⟩, next_of_sat (by decide)⟩

theorem witness_CommandOnBusyCoreOrWithBadOperandIsRejected :
    (busy0 0x2).busy = true ∧ idle0.busy = false ∧ (Instr.addRoundKey 11).wellFormed = false ∧
      (Instr.gfMulc 0x04).wellFormed = false := by decide

theorem witness_IllegalCommandWordIsRejected :
    idle0.busy = false ∧ IllegalByClass 0x0000000E ∧ IllegalByClass 0x0000000F ∧ IllegalByClass 0x00010002 ∧
      IllegalByClass 0x00000012 ∧ IllegalByClass 0x000000BA ∧ IllegalByClass 0x0000010B ∧
      IllegalByClass 0x0000040D ∧ ¬ IllegalByClass 0x000000AA :=
  ⟨rfl, by decide, by decide, by decide, by decide, by decide, by decide, by decide, by decide⟩

theorem witness_CommandWithoutKeyIsRejected :
    idle0.busy = false ∧ idle0.keyValid = false ∧ (10#4).toNat ≤ 10 ∧
      ∃ t, memWrite 0 0x000000AA idle0 = .next t ∧ (!idle0.errNoKey && t.errNoKey) = true :=
  ⟨rfl, rfl, by decide, next_of_sat (by decide)⟩

theorem witness_RejectionPriorityIsBusyIllegalNoKey :
    (busy0 0x2).busy = true ∧ idle0.busy = false ∧ idle0.keyValid = false ∧ IllegalByClass 0x00000012 ∧
      ¬ IllegalByClass 0x00000002 ∧ (0x00000002#32).extractLsb' 0 4 ∈ [0x2#4, 0x3#4, 0xA#4] ∧
      ∃ t, memWrite 4 0 (busy0 0x2) = .next t ∧ t.errBusy = true := by
  exact ⟨rfl, rfl, rfl, by decide, by decide, by decide, next_of_sat (p := fun t => t.errBusy) (by decide)⟩

theorem witness_ResetCycleResetsEverythingButTheSchedule :
    ∃ s : State, s.pins.rst = true ∧ s.busy = true ∧ s.pins.access = .write 0 1 :=
  ⟨{ busy0 0x1 with port := [{ writeCycle 0 1 with rst := true }] }, rfl, rfl, rfl⟩

theorem witness_HeldResetLeavesAnIdleCore :
    ∃ s : State, s.busy = true ∧ Config.rstCycles ≤ s.port.length ∧
      ∀ p ∈ s.port.take Config.rstCycles, p.rst = true :=
  ⟨{ busy0 0x1 with port := List.replicate Config.rstCycles resetPins }, rfl, by simp,
    by simp [resetPins]⟩

/-- An idle state other than the reset state that meets the invariant. -/
theorem inv_keyed0 : Inv keyed0 := by
  constructor <;> simp [keyed0, idle0, State.reset]

/-- A busy state that meets the invariant. -/
theorem inv_busy0 (ps : List BusCycle) : Inv { busy0 0x4 with port := ps } := by
  constructor <;> simp [busy0, idle0, State.reset]

theorem witness_EveryStepKeepsTheInvariant :
    ∃ t, Inv (keyedWith [writeCycle 0 2]) ∧ step (keyedWith [writeCycle 0 2]) = .next t ∧ t.busy = true := by
  obtain ⟨t, ht, hb⟩ := next_of_sat (o := step (keyedWith [writeCycle 0 2])) (p := fun t => t.busy) (by rfl)
  exact ⟨t, by constructor <;> simp [keyedWith, keyed0, idle0, State.reset], ht, hb⟩

theorem witness_LegalStateAlwaysSteps : ∃ s : State, Inv s ∧ s.busy = true := ⟨_, inv_busy0 [], rfl⟩

theorem witness_ScheduleChangesOnlyByKeyExpand :
    (∃ t, step { busy0 0x1 with widx := 4 } = .next t ∧ decide (t.w ≠ ({ busy0 0x1 with widx := 4 } : State).w) = true) ∧
      ∃ t, step { idleWith [writeCycle 0 1] with key := countingBlock } = .next t ∧
        decide (t.w ≠ ({ idleWith [writeCycle 0 1] with key := countingBlock } : State).w) = true :=
  ⟨next_of_sat (by decide), next_of_sat (by decide)⟩

/-- The command of the word 1 stands on this state's bus. -/
theorem keyExpand_on_bus : CommandOnBus .keyExpand (keyedWith [writeCycle 0 1]) := ⟨rfl, 1, rfl, rfl⟩

theorem witness_KeyValidFollowsItsFourWriters :
    (∃ t, step (keyedWith [resetPins]) = .next t ∧ (keyedWith [resetPins]).pins.rst = true) ∧
      (CommandOnBus .keyExpand (keyedWith [writeCycle 0 1]) ∧ (keyedWith [writeCycle 0 1]).busy = false ∧
        ∃ t, step (keyedWith [writeCycle 0 1]) = .next t ∧ (!t.keyValid) = true) ∧
      (∃ t, step { busy0 0x1 with widx := 43 } = .next t ∧ t.keyValid = true) ∧
      ((keyedWith [writeCycle 11 0]).pins.access = .write (BitVec.ofNat 10 (8 + (3 : Fin 4).val)) 0 ∧
        ∃ t, step (keyedWith [writeCycle 11 0]) = .next t ∧ (!t.keyValid) = true) ∧
      idle0.busy = false ∧ idle0.keyValid = false ∧ (0#4).toNat ≤ 10 :=
  ⟨⟨_, rfl, rfl⟩, ⟨keyExpand_on_bus, rfl, next_of_sat (by rfl)⟩,
    next_of_sat (p := fun t => t.keyValid) (by decide), ⟨rfl, next_of_sat (by rfl)⟩, rfl, rfl, by decide⟩

/-- One step in which each flag of the statement changes as its clause says. -/
theorem witness_StatusFlagsChangeOnlyByTheirRules :
    (∃ t, step (idleWith [writeCycle 0 4]) = .next t ∧ t.busy = true) ∧
      (∃ t, step (busy0 0x4) = .next t ∧ (!t.busy && t.done) = true) ∧
      (∃ t, step { idleWith [writeCycle 0 4] with done := true } = .next t ∧ (!t.done) = true) ∧
      (∃ t, step { busy0 0x4 with port := [writeCycle 15 0] } = .next t ∧ t.errBusy = true) ∧
      (∃ t, step (idleWith [writeCycle 0 0xE]) = .next t ∧ t.errIllegal = true) ∧
      (∃ t, step (idleWith [writeCycle 0 2]) = .next t ∧ t.errNoKey = true) ∧
      ∃ t, step { idleWith [writeCycle 1 0x70] with errBusy := true, errIllegal := true, errNoKey := true } = .next t ∧
        (!t.errBusy && !t.errIllegal && !t.errNoKey) = true :=
  ⟨next_of_sat (p := fun t => t.busy) (by decide), next_of_sat (by decide), next_of_sat (by decide),
    next_of_sat (p := fun t => t.errBusy) (by decide), next_of_sat (p := fun t => t.errIllegal) (by decide),
    next_of_sat (p := fun t => t.errNoKey) (by decide), next_of_sat (by decide)⟩

theorem witness_HostWriteAndControllerStepAreDisjoint :
    (busy0 0x4).busy = true ∧ ∃ u, controllerStep (busy0 0x4) = .next u ∧ u.done = true :=
  ⟨rfl, next_of_sat (p := fun t => t.done) (by decide)⟩

theorem witness_ConstantLatchBelongsToGfMulc :
    idle0.busy = false ∧ cset.contains 0x0E#8 = true ∧
      (∃ t, step (idleWith [writeCycle 0 0xE0D]) = .next t ∧
        decide (t.mulcC ≠ (idleWith [writeCycle 0 0xE0D]).mulcC) = true) ∧
      (¬ ((4 : BitVec 10) = 0 ∧ ∃ c, decode 0x00000E0D = .ok (.gfMulc c))) ∧ (busy0 0xB).opcur ≠ 0xD#4 ∧
      ∃ t, controllerStep { busy0 0xD with mulcC := 0x0E } = .next t ∧ t.done = true :=
  ⟨rfl, by decide, next_of_sat (by decide), by simp, by decide,
    next_of_sat (p := fun t => t.done) (by decide)⟩

theorem witness_EveryCommandWriteIsAnsweredWithoutDataWork :
    Instr.nop ≠ .encrypt ∧ Instr.nop ≠ .decrypt ∧ (∀ rnd, Instr.nop ≠ .addRoundKey rnd) ∧
      (∀ c, Instr.nop ≠ .gfMulc c) ∧ Instr.nop ≠ .keyExpand := by simp

theorem witness_AcceptedCommandFinishesAfterItsSteps :
    Instr.encrypt.wellFormed = true ∧ keyed0.busy = false ∧ keyed0.keyValid = true ∧
      NoReset (stepCount .encrypt) (keyedWith (List.replicate 11 (writeCycle 8 0))) := by
  refine ⟨rfl, rfl, rfl, ?_⟩
  simp [NoReset, stepCount, keyedWith, writeCycle]

theorem witness_RejectedWriteDoesNotDisturbTheStep :
    ∀ off : BitVec 10, off = 0 ∨ off = 4 ∨ off = 8 ∨ off = 15 → ∃ s : State, Inv s ∧ s.busy = true ∧
      (off.toNat = 0 ∨ off.toNat = 4 ∨ (8 ≤ off.toNat ∧ off.toNat ≤ 15)) ∧ s.port = [writeCycle off 0] := by
  intro off h
  exact ⟨_, inv_busy0 [writeCycle off 0], rfl, by obtain rfl | rfl | rfl | rfl := h <;> decide, rfl⟩

theorem witness_MultiplierSupportsSevenConstants :
    (0x04#8) ∉ [0x01#8, 0x02#8, 0x03#8, 0x09#8, 0x0B#8, 0x0D#8, 0x0E#8] := by decide

theorem witness_ExpandKeyMeetsItsRecurrence : (4 ≤ 4 ∧ 4 < 44) ∧ (4 ≤ 43 ∧ 43 < 44) := by decide

theorem witness_FixedColumnsAndRotationOrder :
    ∀ r : Fin 4, sByte ⟨0xC6C6C6C6, 0, 0x01010101, 0⟩ r 0 = sByte ⟨0xC6C6C6C6, 0, 0x01010101, 0⟩ 0 0 := by decide

theorem witness_StagesHaveTheirThreeForms :
    (1 ≤ (1 : Fin 11).val ∧ (1 : Fin 11).val ≤ 9) ∧ (1 ≤ (9 : Fin 11).val ∧ (9 : Fin 11).val ≤ 9) := by decide

theorem witness_NopDoesNothing :
    (0x00000010#32).extractLsb' 0 4 = 0#4 ∧ (0x00000010#32) ≠ 0 ∧ idle0.busy = false ∧ (busy0 0x1).busy = true := by
  decide

theorem witness_KeyExpandFillsTheSchedule : idle0.busy = false ∧ NoReset 40 (idleWith [writeCycle 8 5]) := by
  refine ⟨rfl, ?_⟩
  simp [NoReset, idleWith, writeCycle]

theorem witness_ExpansionProceedsWordByWord : idle0.busy = false ∧ 39 < 40 ∧ NoReset 39 idle0 := by
  refine ⟨rfl, by decide, ?_⟩
  simp [NoReset, idle0, State.reset]

theorem witness_EncryptCompletes :
    keyed0.busy = false ∧ keyed0.keyValid = true ∧ NoReset 11 keyed0 ∧ 0 < 11 ∧ 10 < 11 := by
  refine ⟨rfl, rfl, ?_, by decide, by decide⟩
  simp [NoReset, keyed0, idle0, State.reset]

theorem witness_DecryptCompletes :
    (keyedWith [writeCycle 12 5]).busy = false ∧ (keyedWith [writeCycle 12 5]).keyValid = true ∧
      NoReset 11 (keyedWith [writeCycle 12 5]) ∧ 0 < 11 ∧ 10 < 11 := by
  refine ⟨rfl, rfl, ?_, by decide, by decide⟩
  simp [NoReset, keyedWith, writeCycle]

theorem witness_SingleStageCommandsComplete : idle0.busy = false ∧ idle0.keyValid = false ∧ NoReset 1 idle0 := by
  refine ⟨rfl, rfl, ?_⟩
  simp [NoReset, idle0, State.reset]

theorem witness_AddRoundKeyCompletes : keyed0.busy = false ∧ keyed0.keyValid = true ∧ NoReset 1 keyed0 := by
  refine ⟨rfl, rfl, ?_⟩
  simp [NoReset, keyed0, idle0, State.reset]

theorem witness_ByteCommandsComplete :
    (idleWith [writeCycle 4 5]).busy = false ∧ NoReset 1 (idleWith [writeCycle 4 5]) := by
  refine ⟨rfl, ?_⟩
  simp [NoReset, idleWith, writeCycle]

theorem witness_ErrorsStayWithoutAWrite :
    (∀ p ∈ [readCycle 1, idleCycle].take 2, p.rst = false ∧ ∀ off v, p.access ≠ .write off v) ∧
      ∃ t, Host.Core.run core 2 { idleWith [readCycle 1, idleCycle] with errBusy := true, errCause := 1 } = .next t ∧
        t.errBusy = true := by
  refine ⟨?_, next_of_sat (p := fun t => t.errBusy) (by decide)⟩
  simp [readCycle, idleCycle, BusCycle.access]

theorem witness_BlockResultDependsOnStateAndScheduleOnly :
    keyed0.busy = false ∧ ({ keyed0 with operand := 1 } : State) ≠ keyed0 ∧
      ({ keyed0 with operand := 1 } : State).state = keyed0.state ∧ NoReset 11 keyed0 ∧
      ∃ t, exec .encrypt keyed0 = .next t ∧ ∃ u, Host.Core.run core 11 t = .next u := by
  refine ⟨rfl, fun h => absurd (congrArg State.operand h) (by decide), rfl, ?_, _, rfl, _, rfl⟩
  simp [NoReset, keyed0, idle0, State.reset]

theorem witness_BootOrderEncryptsTheBlock :
    (41 ≤ 41 ∧ 12 ≤ 12) ∧ ∃ s : State, s.busy = false ∧
      s.port = bootOrder (Vector.replicate 16 1) (Vector.replicate 16 2) 0x00000002 41 12 :=
  ⟨by decide, idleWith _, rfl, rfl⟩

theorem witness_BootOrderDecryptsTheBlock :
    (41 ≤ 41 ∧ 12 ≤ 12) ∧ ∃ s : State, s.busy = false ∧
      s.port = bootOrder (Vector.replicate 16 1) (Vector.replicate 16 2) 0x00000003 41 12 :=
  ⟨by decide, idleWith _, rfl, rfl⟩

end Sys2Proof.Tests
end

/-! The latch MULC_C (10_state.md R30): what writes it, and that nothing but the GF_MULC step reads it. -/

section
namespace Sys2Proof.Machine

/-! ## What writes MULC_C -/

/-- CMD stands at offset 0 only (20_memory.md R52). -/
theorem registerAt_eq_cmd {off : BitVec 10} : registerAt off = .cmd ↔ off = 0 := by
  refine ⟨fun h => ?_, fun h => h ▸ registerAt_cmd⟩
  unfold registerAt at h
  simp only at h
  split at h
  · exact BitVec.eq_of_toNat_eq (by simpa using ‹4 * off.toNat = 0›)
  · repeat' split at h
    all_goals cases h

/-- The word of a well-formed command is legal (30_encoding.md R73, R76). -/
theorem illegalClass_encode {i : Instr} (h : i.wellFormed = true) : illegalClass (encode i) = none := by
  cases i with
  | addRoundKey rnd =>
    have hr : rnd.toNat ≤ 10 := of_decide_eq_true h
    simp [illegalClass, encode, Instr.opcode, Instr.rnd, Instr.constant, hr]
  | gfMulc c =>
    have hc : cset.contains c = true := h
    simp [illegalClass, encode, Instr.opcode, Instr.rnd, Instr.constant, -List.contains_eq_mem, hc]
  | _ => decide

/-- An idle core accepts GF_MULC with a constant of CSET, whether or not its key is valid (40_gf_arith.md R107). -/
theorem commandCheck_gfMulc {c : Byte} {s : State} (hb : s.busy = false) (hc : cset.contains c = true) :
    commandCheck (encode (.gfMulc c)) s = none :=
  commandCheck_pass hb (illegalClass_encode hc) (by simp [needsSchedule, encode, Instr.opcode])

/-- Acceptance of any command but GF_MULC leaves MULC_C alone. -/
theorem acceptance_mulcC {i : Instr} (hi : ∀ c, i ≠ .gfMulc c) (s : State) :
    (acceptance i s).mulcC = s.mulcC := by
  cases i with
  | gfMulc c => exact absurd rfl (hi c)
  | _ => rfl

/-- A host access writes MULC_C only where it is the accepted CMD write of a GF_MULC, and then with its constant. -/
theorem HostMove.mulcC {a : HostAccess} {s t : State} (h : HostMove a s t) :
    t.mulcC = s.mulcC ∨
      (s.busy = false ∧ ∃ v c, a = .write 0 v ∧ decode v = .ok (.gfMulc c) ∧ t.mulcC = c) := by
  cases h with
  | accepted off v i ha hr hd hchk =>
    by_cases hi : ∃ c, i = .gfMulc c
    · obtain ⟨c, rfl⟩ := hi
      obtain rfl := registerAt_eq_cmd.mp hr
      exact .inr ⟨(commandCheck_eq_none.mp hchk).1, v, c, ha, hd, rfl⟩
    · exact .inl (acceptance_mulcC (fun c hc => hi ⟨c, hc⟩) s)
  | _ => exact .inl rfl

/-- No controller step writes MULC_C. -/
theorem ControllerMove.mulcC {s t : State} (h : ControllerMove s t) : t.mulcC = s.mulcC := by
  cases h <;> rfl

/-- A step that changes MULC_C is a reset or the acceptance of a GF_MULC (R30). -/
theorem step_mulcC {s t : State} (h : step s = .next t) :
    t.mulcC = s.mulcC ∨ s.pins.rst = true ∨
      (s.busy = false ∧ ∃ c, CommandOnBus (.gfMulc c) s ∧ t.mulcC = c) := by
  obtain ⟨hr, -⟩ | ⟨hr, u, hu, hm⟩ := step_move h
  · exact .inr (.inl hr)
  · have htu : t.mulcC = u.mulcC := by
      obtain ⟨-, rfl⟩ | ⟨-, hc⟩ := hm
      · rfl
      · exact hc.mulcC
    rw [htu]
    obtain hsame | ⟨hb, v, c, ha, hd, hc⟩ := hu.mulcC
    · exact .inl hsame
    · exact .inr (.inr ⟨hb, c, ⟨hr, v, ha, hd⟩, hc⟩)

/-! ## What does not read MULC_C: each operation commutes with putting a value into the latch -/

/-- The outcome `o` with `x` put into the MULC_C of its next state. -/
def putMulcAfter (x : Byte) (o : Host.Outcome State Fault Refusal) : Host.Outcome State Fault Refusal :=
  andThen o fun t => .next (putMulc x t)

@[simp] theorem putMulcAfter_next (x : Byte) (s : State) : putMulcAfter x (.next s) = .next (putMulc x s) := rfl

@[simp] theorem putMulcAfter_fault (x : Byte) (r : Fault) : putMulcAfter x (.fault r) = .fault r := rfl

/-- The host cannot read MULC_C (R30). -/
theorem memRead_putMulc (off : BitVec 10) (x : Byte) (s : State) : memRead off (putMulc x s) = memRead off s := by
  unfold memRead
  cases registerAt off <;> rfl

theorem acceptance_putMulc {i : Instr} (hi : ∀ c, i ≠ .gfMulc c) (x : Byte) (s : State) :
    acceptance i (putMulc x s) = putMulc x (acceptance i s) := by
  cases i with
  | gfMulc c => exact absurd rfl (hi c)
  | _ => rfl

theorem commandCheck_putMulc (v : Word) (x : Byte) (s : State) :
    commandCheck v (putMulc x s) = commandCheck v s := rfl

theorem exec_putMulc {i : Instr} (hi : ∀ c, i ≠ .gfMulc c) (x : Byte) (s : State) :
    exec i (putMulc x s) = putMulcAfter x (exec i s) := by
  cases h : commandCheck (encode i) s with
  | none => rw [exec_accept h, exec_accept (commandCheck_putMulc .. ▸ h), acceptance_putMulc hi, putMulcAfter_next]
  | some e =>
    rw [exec_reject h, exec_reject (commandCheck_putMulc .. ▸ h)]
    rfl

theorem commandWrite_putMulc {v : Word} (hv : ∀ c, decode v ≠ .ok (.gfMulc c)) (x : Byte) (s : State) :
    commandWrite v (putMulc x s) = putMulcAfter x (commandWrite v s) := by
  unfold commandWrite
  split
  · rename_i i hd
    exact exec_putMulc (fun c hc => hv c (hc ▸ hd)) x s
  · rfl

theorem guardedWrite_putMulc {act : State → State} {x : Byte} {s : State}
    (hact : act (putMulc x s) = putMulc x (act s)) (off : BitVec 10) (v : Word) :
    guardedWrite off v act (putMulc x s) = putMulc x (guardedWrite off v act s) := by
  unfold guardedWrite
  rw [putMulc_busy, hact]
  split <;> rfl

/-- No host write but the CMD write of a GF_MULC depends on MULC_C. -/
theorem memWrite_putMulc {off : BitVec 10} {v : Word} (h : ¬ (off = 0 ∧ ∃ c, decode v = .ok (.gfMulc c)))
    (x : Byte) (s : State) : memWrite off v (putMulc x s) = putMulcAfter x (memWrite off v s) := by
  unfold memWrite
  split
  case h_1 hr => exact commandWrite_putMulc (fun c hc => h ⟨registerAt_eq_cmd.mp hr, c, hc⟩) x s
  case h_5 => exact congrArg _ (guardedWrite_putMulc (by rfl) off v)
  case h_6 => exact congrArg _ (guardedWrite_putMulc (by rfl) off v)
  case h_7 => exact congrArg _ (guardedWrite_putMulc (by rfl) off v)
  all_goals rfl

theorem roundIndex_putMulc (x : Byte) (s : State) : roundIndex (putMulc x s) = roundIndex s := rfl

/-- A KEY_EXPAND step before the last computes one word (43_key_schedule.md R157). -/
theorem stepKeyExpand_word {s : State} (hw : 4 ≤ s.widx.toNat ∧ s.widx.toNat < 44) (hl : s.widx.toNat ≠ 43) :
    stepKeyExpand s = .next (putScheduleWord s.widx.toNat hw s) := by
  simp [stepKeyExpand, hw, hl]

/-- The last KEY_EXPAND step also makes the key valid and finishes (R157). -/
theorem stepKeyExpand_last {s : State} (hw : 4 ≤ s.widx.toNat ∧ s.widx.toNat < 44) (hl : s.widx.toNat = 43) :
    stepKeyExpand s = .next (finish (validateKey (putScheduleWord s.widx.toNat hw s))) := by
  simp [stepKeyExpand, hl]

theorem stepKeyExpand_fault {s : State} (hw : ¬ (4 ≤ s.widx.toNat ∧ s.widx.toNat < 44)) :
    stepKeyExpand s = .fault .widxImpossible :=
  dif_neg hw

theorem stepKeyExpand_putMulc (x : Byte) (s : State) :
    stepKeyExpand (putMulc x s) = putMulcAfter x (stepKeyExpand s) := by
  by_cases hw : 4 ≤ s.widx.toNat ∧ s.widx.toNat < 44
  · by_cases hl : s.widx.toNat = 43
    · rw [stepKeyExpand_last hw hl, stepKeyExpand_last (s := putMulc x s) hw hl]
      rfl
    · rw [stepKeyExpand_word hw hl, stepKeyExpand_word (s := putMulc x s) hw hl]
      rfl
  · rw [stepKeyExpand_fault hw, stepKeyExpand_fault (s := putMulc x s) hw, putMulcAfter_fault]

theorem stepEncrypt_putMulc (x : Byte) (s : State) :
    stepEncrypt (putMulc x s) = putMulcAfter x (stepEncrypt s) := by
  unfold stepEncrypt
  rw [roundIndex_putMulc]
  cases roundIndex s with
  | none => rfl
  | some r =>
    simp only
    split <;> rfl

theorem stepDecrypt_putMulc (x : Byte) (s : State) :
    stepDecrypt (putMulc x s) = putMulcAfter x (stepDecrypt s) := by
  unfold stepDecrypt
  rw [roundIndex_putMulc]
  cases roundIndex s with
  | none => rfl
  | some r =>
    simp only
    split <;> rfl

theorem stepAddRoundKey_putMulc (x : Byte) (s : State) :
    stepAddRoundKey (putMulc x s) = putMulcAfter x (stepAddRoundKey s) := by
  unfold stepAddRoundKey
  rw [roundIndex_putMulc]
  cases roundIndex s <;> rfl

/-- The step of a command other than GF_MULC does not depend on MULC_C. -/
theorem controllerStep_putMulc {s : State} (h : s.opcur ≠ 0xD#4) (x : Byte) :
    controllerStep (putMulc x s) = putMulcAfter x (controllerStep s) := by
  have hD : s.opcur.toNat ≠ 0xD := fun hn => h (BitVec.eq_of_toNat_eq hn)
  unfold controllerStep
  rw [putMulc_opcur]
  split
  case h_1 => exact stepKeyExpand_putMulc x s
  case h_2 => exact stepEncrypt_putMulc x s
  case h_3 => exact stepDecrypt_putMulc x s
  case h_10 => exact stepAddRoundKey_putMulc x s
  case h_13 hn => exact absurd hn hD
  all_goals rfl

/-- A GF_MULC step that answers puts the product of MULC_C and OPERAND into RESULT (40_gf_arith.md R107). -/
theorem stepGfMulc_result {s t : State} (h : stepGfMulc s = .next t) :
    mulc s.mulcC s.operand = some t.result := by
  unfold stepGfMulc at h
  split at h
  · rename_i b hb
    cases h
    exact hb
  · cases h

end Sys2Proof.Machine
end

section
open Sys2Proof Sys2Proof.Machine

/-- Settles O27: the writers of MULC_C by inversion of the step, and its one reader by commuting every other
operation with a write of the latch. -/
theorem constantLatchBelongsToGfMulc : Obligations.ConstantLatchBelongsToGfMulc := by
  unfold Obligations.ConstantLatchBelongsToGfMulc
  refine ⟨rfl, fun s c hb hc => ?_, fun s t h hne => ?_, fun s off x => memRead_putMulc off x s,
    fun s off v x h => memWrite_putMulc h x s, fun s x h => controllerStep_putMulc h x, fun s t ho h => ?_⟩
  · exact ⟨_, exec_accept (commandCheck_gfMulc hb hc), rfl⟩
  · exact (step_mulcC h).resolve_left hne
  · exact stepGfMulc_result (controllerStep_gfMulc ho ▸ h)
end

/-! The address map of the host's bus (20_memory.md): what a read returns and a write does at every offset. -/

section
namespace Sys2Proof.Machine

/-! ## The address map at the offsets no host write changes -/

theorem registerAt_errinfo : registerAt 2 = .errinfo := by decide
theorem registerAt_errcmd : registerAt 3 = .errcmd := by decide

/-- The three gaps of the address map are reserved (20_memory.md R52). -/
theorem registerAt_reserved {off : BitVec 10} (h : (0x014 ≤ 4 * off.toNat ∧ 4 * off.toNat ≤ 0x01C) ∨
    (0x040 ≤ 4 * off.toNat ∧ 4 * off.toNat ≤ 0x0FC) ∨ 0x1B0 ≤ 4 * off.toNat) : registerAt off = .reserved := by
  unfold registerAt
  simp only
  iterate 5 rw [if_neg (by omega)]
  iterate 3 rw [dif_neg (by omega)]

/-- Between the gaps above STATE stands the schedule W (R52). -/
theorem registerAt_schedule {off : BitVec 10} (h : 0x100 ≤ 4 * off.toNat ∧ 4 * off.toNat ≤ 0x1AC) :
    ∃ i, registerAt off = .w i := by
  refine ⟨⟨off.toNat - 0x40, by omega⟩, ?_⟩
  rw [← registerAt_w]
  congr 1
  apply BitVec.eq_of_toNat_eq
  simp only [BitVec.toNat_ofNat]
  omega

/-- The registers that ignore host writes (20_memory.md R58). -/
def IgnoresWrites (r : Register) : Prop :=
  r = .errinfo ∨ r = .errcmd ∨ (∃ i, r = .w i) ∨ r = .reserved

/-- The offsets of the registers that ignore host writes (R52, R58). -/
theorem registerAt_ignoresWrites {off : BitVec 10} (h : 4 * off.toNat = 0x008 ∨ 4 * off.toNat = 0x00C ∨
    (0x014 ≤ 4 * off.toNat ∧ 4 * off.toNat ≤ 0x01C) ∨ 0x040 ≤ 4 * off.toNat) :
    IgnoresWrites (registerAt off) := by
  obtain h | h | h | h := h
  · obtain rfl : off = 2 := BitVec.eq_of_toNat_eq (by simp; omega)
    exact .inl registerAt_errinfo
  · obtain rfl : off = 3 := BitVec.eq_of_toNat_eq (by simp; omega)
    exact .inr (.inl registerAt_errcmd)
  · exact .inr (.inr (.inr (registerAt_reserved (.inl h))))
  · by_cases hw : 0x100 ≤ 4 * off.toNat ∧ 4 * off.toNat ≤ 0x1AC
    · exact .inr (.inr (.inl (registerAt_schedule hw)))
    · exact .inr (.inr (.inr (registerAt_reserved (by omega))))

/-! ## Reads and writes by the register at the offset -/

theorem memRead_of_registerAt {off : BitVec 10} {r : Register} (h : registerAt off = r) (s : State) :
    memRead off s = readRegister r s :=
  h ▸ rfl

/-- Rejecting for ERR_BUSY, with the error bits and the cause written out (60_exceptions.md R230, R231). -/
theorem raise_errBusy_eq (off : BitVec 10) (v : Word) (s : State) :
    raise .errBusy off v s = busyRejected off v s := by
  simp [raise, busyRejected, Rejection.code]

theorem guardedWrite_eq (off : BitVec 10) (v : Word) (act : State → State) (s : State) :
    guardedWrite off v act s = if s.busy then busyRejected off v s else act s := by
  rw [guardedWrite, raise_errBusy_eq]

section
variable {off : BitVec 10} (v : Word) (s : State)

theorem memWrite_cmd (h : registerAt off = .cmd) : memWrite off v s = commandWrite v s := by
  simp [memWrite, h]

theorem memWrite_status (h : registerAt off = .status) : memWrite off v s = .next (clearErrors v s) := by
  simp [memWrite, h]

theorem memWrite_byteIo (h : registerAt off = .byteIo) :
    memWrite off v s = .next (if s.busy then busyRejected off v s else putOperand v s) := by
  simp [memWrite, h, guardedWrite_eq]

theorem memWrite_key {k : Fin 4} (h : registerAt off = .key k) :
    memWrite off v s = .next (if s.busy then busyRejected off v s else putKeyWord k v s) := by
  simp [memWrite, h, guardedWrite_eq]

theorem memWrite_state {c : Fin 4} (h : registerAt off = .state c) :
    memWrite off v s = .next (if s.busy then busyRejected off v s else putStateWord c v s) := by
  simp [memWrite, h, guardedWrite_eq]

/-- A write to a read-only or reserved register is ignored, busy or not (20_memory.md R58). -/
theorem memWrite_ignored (h : IgnoresWrites (registerAt off)) : memWrite off v s = .next s := by
  obtain h | h | ⟨i, h⟩ | h := h <;> simp [memWrite, h]

end

/-! ## What the controller's step neither reads nor writes -/

/-- `s` with the part of `t` that the controller neither reads nor writes: KEY, the error bits and the record of the
last rejection, the bus, and the number of draws (20_memory.md R63). -/
def withHostPart (t s : State) : State :=
  { s with
    key := t.key
    errBusy := t.errBusy
    errIllegal := t.errIllegal
    errNoKey := t.errNoKey
    errCause := t.errCause
    errOffset := t.errOffset
    errCmd := t.errCmd
    port := t.port
    rdata := t.rdata
    draws := t.draws }

theorem stepKeyExpand_withHostPart (t s : State) :
    stepKeyExpand (withHostPart t s) = andThen (stepKeyExpand s) fun u => .next (withHostPart t u) := by
  by_cases hw : 4 ≤ s.widx.toNat ∧ s.widx.toNat < 44
  · by_cases hl : s.widx.toNat = 43
    · rw [stepKeyExpand_last hw hl, stepKeyExpand_last (s := withHostPart t s) hw hl]
      rfl
    · rw [stepKeyExpand_word hw hl, stepKeyExpand_word (s := withHostPart t s) hw hl]
      rfl
  · rw [stepKeyExpand_fault hw, stepKeyExpand_fault (s := withHostPart t s) hw]
    rfl

theorem roundIndex_withHostPart (t s : State) : roundIndex (withHostPart t s) = roundIndex s := rfl

theorem stepEncrypt_withHostPart (t s : State) :
    stepEncrypt (withHostPart t s) = andThen (stepEncrypt s) fun u => .next (withHostPart t u) := by
  unfold stepEncrypt
  rw [roundIndex_withHostPart]
  cases roundIndex s with
  | none => rfl
  | some r =>
    simp only
    split <;> rfl

theorem stepDecrypt_withHostPart (t s : State) :
    stepDecrypt (withHostPart t s) = andThen (stepDecrypt s) fun u => .next (withHostPart t u) := by
  unfold stepDecrypt
  rw [roundIndex_withHostPart]
  cases roundIndex s with
  | none => rfl
  | some r =>
    simp only
    split <;> rfl

theorem stepAddRoundKey_withHostPart (t s : State) :
    stepAddRoundKey (withHostPart t s) = andThen (stepAddRoundKey s) fun u => .next (withHostPart t u) := by
  unfold stepAddRoundKey
  rw [roundIndex_withHostPart]
  cases roundIndex s <;> rfl

theorem stepGfMulc_withHostPart (t s : State) :
    stepGfMulc (withHostPart t s) = andThen (stepGfMulc s) fun u => .next (withHostPart t u) := by
  unfold stepGfMulc
  rw [show mulc (withHostPart t s).mulcC (withHostPart t s).operand = mulc s.mulcC s.operand from rfl]
  cases mulc s.mulcC s.operand <;> rfl

/-- The controller's step commutes with replacing the part it neither reads nor writes (20_memory.md R63). -/
theorem controllerStep_withHostPart (t s : State) :
    controllerStep (withHostPart t s) = andThen (controllerStep s) fun u => .next (withHostPart t u) := by
  unfold controllerStep
  rw [show (withHostPart t s).opcur = s.opcur from rfl]
  split
  case h_1 => exact stepKeyExpand_withHostPart t s
  case h_2 => exact stepEncrypt_withHostPart t s
  case h_3 => exact stepDecrypt_withHostPart t s
  case h_10 => exact stepAddRoundKey_withHostPart t s
  case h_13 => exact stepGfMulc_withHostPart t s
  all_goals rfl

/-- A controller move keeps the part the controller neither reads nor writes. -/
theorem ControllerMove.withHostPart_eq {s u : State} (h : ControllerMove s u) : withHostPart s u = u := by
  cases h <;> rfl

/-- The controller's step neither reads nor writes `bus_rdata` (20_memory.md R53, R62). -/
theorem controllerStep_rdata (x : Word) (s : State) :
    controllerStep { s with rdata := x } = andThen (controllerStep s) fun u => .next { u with rdata := x } := by
  rw [show ({ s with rdata := x } : State) = withHostPart { s with rdata := x } s from rfl,
    controllerStep_withHostPart]
  cases h : controllerStep s with
  | next u =>
    have hu : withHostPart s u = u := (controllerStep_move h).withHostPart_eq
    exact congrArg (fun u : State => Host.Outcome.next { u with rdata := x }) hu
  | fault r => rfl
  | refused r => rfl

/-! ## A cycle in which the host writes nothing -/

/-- Where the host writes nothing, the step puts the read value on the bus and the controller goes on (R57, R62). -/
theorem step_no_write {s : State} (hr : s.pins.rst = false) (ha : ∀ off v, s.pins.access ≠ .write off v) :
    step s = if s.busy then controllerStep (tick (busReadData s.pins s) s)
      else .next (tick (busReadData s.pins s) s) := by
  have hq (t : State) : hostAccess s.pins.access t = .next t := by
    cases h : s.pins.access with
    | write off v => exact absurd h (ha off v)
    | _ => rfl
  cases hb : s.busy with
  | true => rw [step_busy hr hb, hq, andThen_next, if_pos rfl]
  | false => rw [step_idle hr hb, hq, if_neg (by decide)]

/-- Two states that differ in `bus_rdata` alone go through the controller's part of a cycle alike. -/
theorem controllerPart_rdata (b : Bool) (x : Word) (s : State) :
    (if b then controllerStep { s with rdata := x } else .next { s with rdata := x }) =
      andThen (if b then controllerStep s else .next s) fun u => .next { u with rdata := x } := by
  cases b with
  | true => exact controllerStep_rdata x s
  | false => rfl

/-- A read cycle is an idle cycle with the value read on `bus_rdata`, busy or not (20_memory.md R57). -/
theorem step_read {s : State} {off : BitVec 10} {d : Word} {rest : List BusCycle}
    (hp : s.port = { readCycle off with wdata := d } :: rest) :
    step s = andThen (step { s with port := idleCycle :: rest }) fun t => .next { t with rdata := memRead off s } := by
  have hpins : s.pins = { readCycle off with wdata := d } := by simp [State.pins, hp]
  have hread : step s = if s.busy then controllerStep { s with port := rest, rdata := memRead off s }
      else .next { s with port := rest, rdata := memRead off s } := by
    rw [step_no_write (by rw [hpins]; rfl) (by rw [hpins]; nofun), hpins, tick, hp]
    rfl
  have hidle : step { s with port := idleCycle :: rest } =
      if s.busy then controllerStep { s with port := rest, rdata := 0 } else .next { s with port := rest, rdata := 0 } :=
    step_no_write (s := { s with port := idleCycle :: rest }) rfl nofun
  rw [hread, hidle]
  exact controllerPart_rdata s.busy (memRead off s) { s with port := rest, rdata := 0 }

end Sys2Proof.Machine
end

section
open Sys2Proof Sys2Proof.Machine

/-- Settles O7: the value by the register at the offset, and the frame because the controller's step neither reads
nor writes `bus_rdata`. -/
theorem readReturnsTheRegisterWithoutSideEffect : Obligations.ReadReturnsTheRegisterWithoutSideEffect := by
  unfold Obligations.ReadReturnsTheRegisterWithoutSideEffect
  refine ⟨fun s => ⟨?cmd, ?status, ?errinfo, ?errcmd, ?byteIo, fun k => ?key, fun c => ?state, fun i => ?w,
    fun off h => ?reserved⟩, fun s off d rest hp => step_read hp⟩
  case cmd => exact memRead_of_registerAt registerAt_cmd s
  case status => exact memRead_of_registerAt registerAt_status s
  case errinfo => exact memRead_of_registerAt registerAt_errinfo s
  case errcmd => exact memRead_of_registerAt registerAt_errcmd s
  case byteIo => exact memRead_of_registerAt registerAt_byteIo s
  case key => exact memRead_of_registerAt (registerAt_key k) s
  case state => exact memRead_of_registerAt (registerAt_state c) s
  case w => exact memRead_of_registerAt (registerAt_w i) s
  case reserved => exact memRead_of_registerAt (registerAt_reserved h) s

/-- Settles O9, by the register at the offset. -/
theorem hostWriteActsByRegister : Obligations.HostWriteActsByRegister := by
  unfold Obligations.HostWriteActsByRegister
  intro s v
  refine ⟨?cmd, ?status, ?byteIo, fun k => ?key, fun c => ?state, fun off h => ?ignored⟩
  case cmd => exact memWrite_cmd v s registerAt_cmd
  case status => exact memWrite_status v s registerAt_status
  case byteIo => exact memWrite_byteIo v s registerAt_byteIo
  case key => exact memWrite_key v s (registerAt_key k)
  case state => exact memWrite_state v s (registerAt_state c)
  case ignored => exact memWrite_ignored v s (registerAt_ignoresWrites h)
end

/-! The encoding of commands (30_encoding.md): which words decode to a command. -/

section
namespace Sys2Proof

/-- A word falls in no class of R74 exactly when its fields pass the six tests of R73. -/
theorem illegalClass_eq_none {v : Word} : illegalClass v = none ↔
    fieldRsvd v = 0 ∧ fieldOp v ≠ 0xE#4 ∧ fieldOp v ≠ 0xF#4 ∧ (fieldOp v = 0xA#4 → (fieldRnd v).toNat ≤ 10) ∧
      (fieldOp v ≠ 0xA#4 → fieldRnd v = 0) ∧ (fieldOp v = 0xD#4 → fieldC v ∈ Machine.cset) ∧
      (fieldOp v ≠ 0xD#4 → fieldC v = 0) := by
  simp only [illegalClass, ite_eq_iff, reduceCtorEq, and_false, false_or, and_true, not_or, not_and, not_not, not_lt,
    List.contains_iff_mem, ne_eq, and_assoc]

/-- A word of a class of R74 is refused with that class. -/
theorem decode_of_illegal {v : Word} {e : Illegal} (h : illegalClass v = some e) : decode v = .error e := by
  simp [decode, h]

/-- Only 0xE and 0xF are missing from the opcode map (R72), so every legal word has a command. -/
theorem exists_decode_of_legal {v : Word} (h : illegalClass v = none) : ∃ i, decode v = .ok i := by
  obtain ⟨-, hE, hF, -⟩ := illegalClass_eq_none.mp h
  have hop : (fieldOp v).toNat ≤ 13 := by bv_omega
  simp only [decode, h]
  interval_cases (fieldOp v).toNat <;> exact ⟨_, rfl⟩

/-- The words that decode are those of no class of R74. -/
theorem exists_decode_eq_ok {v : Word} : (∃ i, decode v = .ok i) ↔ illegalClass v = none := by
  refine ⟨fun ⟨i, hi⟩ => ?_, exists_decode_of_legal⟩
  cases h : illegalClass v with
  | none => rfl
  | some e => cases (decode_of_illegal h).symm.trans hi

end Sys2Proof
end

section
open Sys2Proof

/-- Settles O3: a word decodes exactly when no class of R74 holds it, and then its fields, which are the bits the
statement reads, pass the tests. -/
theorem legalWordsPassTheFieldTests : Obligations.LegalWordsPassTheFieldTests := by
  unfold Obligations.LegalWordsPassTheFieldTests
  intro v
  rw [exists_decode_eq_ok]
  exact illegalClass_eq_none
end

/-! The doubler (40_gf_arith.md section 1): its shift and its high-bit test in terms of the byte's value. -/

section
namespace Sys2Proof.Machine

/-- The bit the shift drops is set exactly in the upper half of the byte values. -/
theorem getLsbD_seven_iff (b : Byte) : b.getLsbD 7 = true ↔ 128 ≤ b.toNat := by
  have hmsb : b.getLsbD 7 = decide (128 ≤ b.toNat) := (BitVec.msb_eq_getLsbD_last b).symm.trans b.msb_eq_decide
  rw [hmsb, decide_eq_true_iff]

/-- The shift by one bit is twice the value, cut to a byte. -/
theorem shiftLeft_one_eq_ofNat (b : Byte) : b <<< 1 = BitVec.ofNat 8 (2 * b.toNat) := by
  apply BitVec.eq_of_toNat_eq
  rw [BitVec.toNat_shiftLeft, BitVec.toNat_ofNat, Nat.shiftLeft_eq, pow_one, Nat.mul_comm]

/-- R100 where the high bit is set: the shifted byte is reduced. -/
theorem double_of_high {b : Byte} (h : 128 ≤ b.toNat) : double b = BitVec.ofNat 8 (2 * b.toNat) ^^^ 0x1B#8 := by
  rw [double, if_pos ((getLsbD_seven_iff b).mpr h), shiftLeft_one_eq_ofNat]

/-- R100 where the high bit is clear: the shifted byte stands. -/
theorem double_of_low {b : Byte} (h : ¬ 128 ≤ b.toNat) : double b = BitVec.ofNat 8 (2 * b.toNat) := by
  rw [double, if_neg (mt (getLsbD_seven_iff b).mp h), shiftLeft_one_eq_ofNat]

end Sys2Proof.Machine
end

section
open Sys2Proof Sys2Proof.Machine

/-- Settles O31, by the doubler's two cases; the statement's reduction modulo 256 is that of the byte itself. -/
theorem doubleShiftsAndReduces : Obligations.DoubleShiftsAndReduces := by
  unfold Obligations.DoubleShiftsAndReduces
  intro b
  split
  case isTrue h =>
    have hmod : BitVec.ofNat 8 (2 * b.toNat % 256) = BitVec.ofNat 8 (2 * b.toNat) :=
      BitVec.eq_of_toNat_eq (Nat.mod_mod _ _)
    rw [hmod, double_of_high h]
  case isFalse h => exact double_of_low h
end

/-! The key schedule (43_key_schedule.md): the bytes of its word functions, the recurrence of `expandKey`, and what writes W. -/

section
namespace Sys2Proof.Machine

/-! ## The word functions, byte by byte -/

theorem byteOf_xor (t u : Word) (j : Fin 4) : byteOf (t ^^^ u) j = byteOf t j ^^^ byteOf u j := by
  simp only [byteOf, BitVec.extractLsb'_xor]

/-- RotWord moves the byte after position `j` to `j`, and byte 0 to the last position (R150). -/
theorem byteOf_rotWord (t : Word) (j : Fin 4) : byteOf (rotWord t) j = byteOf t (j + 1) := by
  ext i hi
  fin_cases j <;> interval_cases i <;> simp [byteOf, rotWord]

/-- SubWord puts each byte through the S-box (R151). -/
theorem byteOf_subWord (t : Word) (j : Fin 4) : byteOf (subWord t) j = sbox (byteOf t j) :=
  byteOf_pack (fun k => sbox (byteOf t k)) j

/-- The round constant stands in byte 0 of the word that RconXor XORs in (R152). -/
theorem byteOf_zero_shiftLeft_twentyFour (b : Byte) : byteOf (b.setWidth 32 <<< 24) 0 = b := by
  ext i hi
  interval_cases i <;> simp [byteOf]

/-- The bits 23:0 of the word that RconXor XORs in are 0 (R152). -/
theorem extractLsb'_shiftLeft_twentyFour (b : Byte) : (b.setWidth 32 <<< 24 : Word).extractLsb' 0 24 = 0#24 := by
  ext i hi
  simp [hi]

/-! ## The schedule words that loading the key and one loop body write and keep -/

theorem getElem_loadKey (K : Quad) (w : Schedule) (k : Fin 4) : (loadKey K w)[k.val] = K.get k := by
  fin_cases k <;> simp [loadKey, Quad.get]

theorem getElem_loadKey_of_le (K : Quad) (w : Schedule) {j : Nat} (h : j < 44) (hj : 4 ≤ j) :
    (loadKey K w)[j] = w[j] := by
  unfold loadKey
  iterate 4 rw [Vector.getElem_set_ne _ _ (by omega)]

theorem getElem_expandWord (w : Schedule) (i : Nat) (h : 4 ≤ i ∧ i < 44) :
    (expandWord w i h)[i] = nextWord w i h :=
  Vector.getElem_set_self _

theorem getElem_expandWord_of_ne (w : Schedule) (i : Nat) (h : 4 ≤ i ∧ i < 44) {j : Nat} (hj : j < 44) (hne : j ≠ i) :
    (expandWord w i h)[j] = w[j] :=
  Vector.getElem_set_ne _ _ hne.symm

/-- Word `i` is computed from the two words four and one before it (R153). -/
theorem nextWord_congr {v w : Schedule} {i : Nat} (h : 4 ≤ i ∧ i < 44) (h4 : v[i - 4] = w[i - 4])
    (h1 : v[i - 1] = w[i - 1]) : nextWord v i h = nextWord w i h := by
  simp only [nextWord, h4, h1]

/-! ## The loop of R153 -/

theorem expandLoop_succ (w : Schedule) {n : Nat} (h : n < 40) :
    expandLoop w (n + 1) = expandWord (expandLoop w n) (n + 4) (by omega) :=
  dif_pos h

/-- A word below the next index has its final value: no later turn of the loop writes it. -/
theorem getElem_expandLoop_of_lt (w : Schedule) {n m j : Nat} (hj : j < n + 4) (hnm : n ≤ m) (hm : m ≤ 40) :
    (expandLoop w m)[j] = (expandLoop w n)[j] := by
  induction m, hnm using Nat.le_induction with
  | base => rfl
  | succ m hnm ih =>
    rw [← ih (by omega)]
    simp only [expandLoop_succ w (show m < 40 by omega)]
    exact getElem_expandWord_of_ne _ _ _ _ (by omega)

/-- The words of the finished loop meet its body's equation. -/
theorem getElem_expandLoop (w : Schedule) (i : Nat) (h : 4 ≤ i ∧ i < 44) :
    (expandLoop w 40)[i] = nextWord (expandLoop w 40) i h := by
  obtain ⟨n, rfl⟩ : ∃ n, i = n + 4 := ⟨i - 4, by omega⟩
  have hfinal (j : Nat) (hj : j < n + 4) : (expandLoop w n)[j] = (expandLoop w 40)[j] :=
    (getElem_expandLoop_of_lt w hj (by omega) le_rfl).symm
  calc (expandLoop w 40)[n + 4]
      = (expandLoop w (n + 1))[n + 4] := getElem_expandLoop_of_lt w (by omega) (by omega) le_rfl
    _ = nextWord (expandLoop w n) (n + 4) h := by
        simp only [expandLoop_succ w (show n < 40 by omega)]
        exact getElem_expandWord _ _ _
    _ = nextWord (expandLoop w 40) (n + 4) h :=
        nextWord_congr h (hfinal _ (by omega)) (hfinal _ (by omega))

/-- Words 0 to 3 of the schedule are the key words (R153). -/
theorem getElem_expandKey_lt_four (K : Quad) (k : Fin 4) : (expandKey K)[k.val] = K.get k := by
  rw [← getElem_loadKey K (Vector.replicate 44 0) k]
  exact getElem_expandLoop_of_lt _ (n := 0) (by omega) (by omega) le_rfl

/-- Words 4 to 43 of the schedule meet the recurrence (R153). -/
theorem getElem_expandKey (K : Quad) (i : Nat) (h : 4 ≤ i ∧ i < 44) :
    (expandKey K)[i] = nextWord (expandKey K) i h :=
  getElem_expandLoop _ i h

/-! ## What writes W -/

/-- Acceptance of any command but KEY_EXPAND leaves W alone (R155). -/
theorem acceptance_w {i : Instr} (hi : i ≠ .keyExpand) (s : State) : (acceptance i s).w = s.w := by
  cases i with
  | keyExpand => exact absurd rfl hi
  | _ => rfl

/-- A host access writes W only where it is the accepted CMD write of KEY_EXPAND, which loads the key words (R155, R157). -/
theorem HostMove.w {a : HostAccess} {s t : State} (h : HostMove a s t) :
    t.w = s.w ∨ (s.busy = false ∧ (∃ v, a = .write 0 v ∧ decode v = .ok .keyExpand) ∧ t.w = loadKey s.key s.w) := by
  cases h with
  | accepted off v i ha hr hd hchk =>
    by_cases hi : i = .keyExpand
    · obtain rfl := hi
      obtain rfl := registerAt_eq_cmd.mp hr
      exact .inr ⟨(commandCheck_eq_none.mp hchk).1, ⟨v, ha, hd⟩, rfl⟩
    · exact .inl (acceptance_w hi s)
  | _ => exact .inl rfl

/-- A host access to a busy core changes only what `hostErased` erases (20_memory.md R63). -/
theorem HostMove.hostErased_of_busy {a : HostAccess} {s t : State} (h : HostMove a s t) (hb : s.busy = true) :
    hostErased t = hostErased s := by
  cases h with
  | quiet | cleared | rejected => rfl
  | accepted off v i ha hr hd hchk => simp [commandCheck_busy _ hb] at hchk
  | operand off v ha hr h | keyWord off v k ha hr h | stateWord off v c ha hr h => simp [hb] at h

/-- A controller step writes W only where it is a step of KEY_EXPAND, which computes the word at WIDX (R155, R157). -/
theorem ControllerMove.w {s t : State} (h : ControllerMove s t) :
    t.w = s.w ∨ (s.opcur = 0x1#4 ∧ ∃ hw, t.w = expandWord s.w s.widx.toNat hw) := by
  cases h with
  | scheduleWord hw hop | lastWord hw hop => exact .inr ⟨hop, hw, rfl⟩
  | stage | block | byte => exact .inl rfl

/-- The schedule after a step outside reset: unchanged, one word computed by KEY_EXPAND, or the key loaded by its
acceptance (R155). -/
theorem step_w {s t : State} (hr : s.pins.rst = false) (h : step s = .next t) :
    t.w = s.w ∨
      (s.busy = true ∧ s.opcur = 0x1#4 ∧ ∃ hw, t.w = expandWord s.w s.widx.toNat hw) ∨
      (s.busy = false ∧ CommandOnBus .keyExpand s ∧ t.w = loadKey s.key s.w) := by
  obtain ⟨hrst, -⟩ | ⟨-, u, hu, ⟨-, rfl⟩ | ⟨hb, hc⟩⟩ := step_move h
  · simp [hr] at hrst
  · obtain hsame | ⟨hb, ⟨v, ha, hd⟩, hload⟩ := hu.w
    · exact .inl hsame
    · exact .inr (.inr ⟨hb, ⟨hr, v, ha, hd⟩, hload⟩)
  · have he := hu.hostErased_of_busy hb
    have hw : u.w = s.w := (congrArg State.w he :)
    have hwidx : u.widx = s.widx := (congrArg State.widx he :)
    have hop : u.opcur = s.opcur := (congrArg State.opcur he :)
    have hcw := hc.w
    rw [hw, hwidx, hop] at hcw
    exact hcw.imp_right fun ⟨hop, hnew⟩ => .inl ⟨hb, hop, hnew⟩

end Sys2Proof.Machine
end

section
open Sys2Proof Sys2Proof.Machine

/-- Settles O23: the step's three ways to leave W, and the words that each of the two writers keeps. -/
theorem scheduleChangesOnlyByKeyExpand : Obligations.ScheduleChangesOnlyByKeyExpand := by
  unfold Obligations.ScheduleChangesOnlyByKeyExpand
  intro s t hr h hne
  obtain ⟨hb, hop, hw, hnew⟩ | ⟨hb, hbus, hload⟩ := (step_w hr h).resolve_left hne
  · refine .inl ⟨hb, hop, hw.1, by omega, fun j hj hji => ?_⟩
    simp only [hnew]
    exact getElem_expandWord_of_ne _ _ _ hj hji
  · refine .inr ⟨hb, hbus, fun k => ?_, fun j hj h4 => ?_⟩
    · simp only [hload]
      exact getElem_loadKey _ _ k
    · simp only [hload]
      exact getElem_loadKey_of_le _ _ hj h4

/-- Settles O38, by the bytes of each word function; RotWord is the word packed from its four bytes. -/
theorem keyScheduleWordFunctions : Obligations.KeyScheduleWordFunctions := by
  unfold Obligations.KeyScheduleWordFunctions
  refine ⟨fun t => ⟨?_, rfl⟩, byteOf_subWord, fun t j => ⟨rfl, ?_, ?_⟩⟩
  · rw [← pack_byteOf (rotWord t)]
    simp only [byteOf_rotWord]
    rfl
  · rw [rconXor, byteOf_xor, byteOf_zero_shiftLeft_twentyFour]
  · rw [rconXor, BitVec.extractLsb'_xor, extractLsb'_shiftLeft_twentyFour, BitVec.xor_zero]

/-- Settles O39: the recurrence is the equation of the loop body on the finished loop; the two example words are
computed. -/
theorem expandKeyMeetsItsRecurrence : Obligations.ExpandKeyMeetsItsRecurrence := by
  unfold Obligations.ExpandKeyMeetsItsRecurrence
  exact ⟨fun K => ⟨getElem_expandKey_lt_four K, getElem_expandKey K⟩, by decide, by decide⟩
end

/-! The state operations (44_round_transforms.md section 1): the bytes of their results and the inverse laws of R177. -/

section
namespace Sys2Proof.Machine

/-! ## The laws of the byte functions -/

/-- R121, by a check of the two tables at all 256 bytes. -/
theorem invSbox_sbox (x : Byte) : invSbox (sbox x) = x := by
  revert x
  decide

/-- R121, by a check of the two tables at all 256 bytes. -/
theorem sbox_invSbox (y : Byte) : sbox (invSbox y) = y := by
  revert y
  decide

/-- The doubler is linear: the shift is, and the reductions of two bytes with the high bit set cancel (R104). -/
theorem double_xor (a b : Byte) : double (a ^^^ b) = double a ^^^ double b := by
  simp only [double, BitVec.getLsbD_xor, BitVec.shiftLeft_xor_distrib]
  cases a.getLsbD 7 <;> cases b.getLsbD 7
  case false.false => rfl
  case false.true => exact BitVec.xor_assoc ..
  case true.false =>
    change a <<< 1 ^^^ b <<< 1 ^^^ 0x1B#8 = a <<< 1 ^^^ 0x1B#8 ^^^ b <<< 1
    ac_rfl
  case true.true =>
    change a <<< 1 ^^^ b <<< 1 = a <<< 1 ^^^ 0x1B#8 ^^^ (b <<< 1 ^^^ 0x1B#8)
    rw [← BitVec.xor_eq_zero_iff]
    ac_nf
    simp

/-! ## The bytes of the results (R170 to R176) -/

section
variable (S : Quad) (r c : Fin 4)

@[simp] theorem sByte_addRoundKey (w : Schedule) (k : Fin 11) :
    sByte (addRoundKey w k S) r c = sByte S r c ^^^ byteOf w[4 * k.val + c.val] r :=
  sByte_ofMatrix ..

@[simp] theorem sByte_subBytes : sByte (subBytes S) r c = sbox (sByte S r c) := sByte_ofMatrix ..

@[simp] theorem sByte_invSubBytes : sByte (invSubBytes S) r c = invSbox (sByte S r c) := sByte_ofMatrix ..

@[simp] theorem sByte_shiftRows : sByte (shiftRows S) r c = sByte S r (c + r) := sByte_ofMatrix ..

@[simp] theorem sByte_invShiftRows : sByte (invShiftRows S) r c = sByte S r (c - r) := by
  have hc : (⟨(c.val + 4 - r.val) % 4, by omega⟩ : Fin 4) = c - r := by
    rw [Fin.ext_iff, Fin.val_sub]
    exact congrArg (· % 4) (by omega)
  rw [invShiftRows, sByte_ofMatrix, hc]

@[simp] theorem sByte_mixColumns : sByte (mixColumns S) r c =
    mixColumn (sByte S 0 c) (sByte S 1 c) (sByte S 2 c) (sByte S 3 c) r :=
  sByte_ofMatrix ..

@[simp] theorem sByte_invMixColumns : sByte (invMixColumns S) r c =
    invMixColumn (sByte S 0 c) (sByte S 1 c) (sByte S 2 c) (sByte S 3 c) r :=
  sByte_ofMatrix ..

end

/-! ## The two column matrices

Their product is the identity already before any reduction: once `double` is moved inward by its linearity, every term
but the byte itself occurs an even number of times. So each row is the cancellation of a sum of doubled bytes. -/

section
variable (a : Fin 4 → Byte) (r : Fin 4)

/-- R175 undone by R176, row by row. -/
theorem invMixColumn_mixColumn :
    invMixColumn (mixColumn (a 0) (a 1) (a 2) (a 3) 0) (mixColumn (a 0) (a 1) (a 2) (a 3) 1)
      (mixColumn (a 0) (a 1) (a 2) (a 3) 2) (mixColumn (a 0) (a 1) (a 2) (a 3) 3) r = a r := by
  rw [← BitVec.xor_eq_zero_iff]
  match r with
  | 0 | 1 | 2 | 3 =>
    simp only [mixColumn, invMixColumn, mul2, mul3, mul9, mul11, mul13, mul14, double_xor]
    ac_nf
    simp

/-- R176 undone by R175, row by row. -/
theorem mixColumn_invMixColumn :
    mixColumn (invMixColumn (a 0) (a 1) (a 2) (a 3) 0) (invMixColumn (a 0) (a 1) (a 2) (a 3) 1)
      (invMixColumn (a 0) (a 1) (a 2) (a 3) 2) (invMixColumn (a 0) (a 1) (a 2) (a 3) 3) r = a r := by
  rw [← BitVec.xor_eq_zero_iff]
  match r with
  | 0 | 1 | 2 | 3 =>
    simp only [mixColumn, invMixColumn, mul2, mul3, mul9, mul11, mul13, mul14, double_xor]
    ac_nf
    simp

end

/-! ## The inverse laws (R177) -/

section
variable (S : Quad)

theorem addRoundKey_addRoundKey (w : Schedule) (k : Fin 11) : addRoundKey w k (addRoundKey w k S) = S :=
  quad_eq_of_sByte fun r c => by simp

theorem invSubBytes_subBytes : invSubBytes (subBytes S) = S :=
  quad_eq_of_sByte fun r c => by simp [invSbox_sbox]

theorem subBytes_invSubBytes : subBytes (invSubBytes S) = S :=
  quad_eq_of_sByte fun r c => by simp [sbox_invSbox]

theorem invShiftRows_shiftRows : invShiftRows (shiftRows S) = S :=
  quad_eq_of_sByte fun r c => by simp

theorem shiftRows_invShiftRows : shiftRows (invShiftRows S) = S :=
  quad_eq_of_sByte fun r c => by simp

theorem invMixColumns_mixColumns : invMixColumns (mixColumns S) = S :=
  quad_eq_of_sByte fun r c => by simpa using invMixColumn_mixColumn (sByte S · c) r

theorem mixColumns_invMixColumns : mixColumns (invMixColumns S) = S :=
  quad_eq_of_sByte fun r c => by simpa using mixColumn_invMixColumn (sByte S · c) r

end

end Sys2Proof.Machine
end

section
open Sys2Proof Sys2Proof.Machine

/-- Settles O40: the bytes of AddRoundKey, and the cancellation of a key byte XORed in twice. -/
theorem addRoundKeyXorsTheRoundKey : Obligations.AddRoundKeyXorsTheRoundKey := by
  unfold Obligations.AddRoundKeyXorsTheRoundKey
  exact fun w k S => ⟨fun r c => sByte_addRoundKey S r c w k, addRoundKey_addRoundKey S w k⟩

/-- Settles O42, by the inverse law of each pair of operations. -/
theorem stateOperationsAreInverse : Obligations.StateOperationsAreInverse := by
  unfold Obligations.StateOperationsAreInverse
  exact fun S => ⟨invSubBytes_subBytes S, subBytes_invSubBytes S, invShiftRows_shiftRows S, shiftRows_invShiftRows S,
    invMixColumns_mixColumns S, mixColumns_invMixColumns S, addRoundKey_addRoundKey S⟩
end

/-! The controller (45_controller.md): the three forms of a stage, the block encryption with its known answer, and the
command NOP. -/

section
namespace Sys2Proof.Machine

/-! ## The forms of a stage (R200, R201) -/

section
variable (w : Schedule) (S : Quad)

theorem encStage_zero : encStage w 0 S = addRoundKey w 0 S := if_pos rfl

theorem encStage_middle {r : Fin 11} (h : 1 ≤ r.val ∧ r.val ≤ 9) :
    encStage w r S = addRoundKey w r (mixColumns (shiftRows (subBytes S))) := by
  rw [encStage, if_neg (by omega), if_pos h.2]

theorem encStage_ten : encStage w 10 S = addRoundKey w 10 (shiftRows (subBytes S)) := by
  rw [encStage, if_neg (by decide), if_neg (by decide)]

theorem decStage_ten : decStage w 10 S = addRoundKey w 10 S := if_pos rfl

theorem decStage_middle {r : Fin 11} (h : 1 ≤ r.val ∧ r.val ≤ 9) :
    decStage w r S = invMixColumns (addRoundKey w r (invSubBytes (invShiftRows S))) := by
  rw [decStage, if_neg (by omega), if_pos h.1]

theorem decStage_zero : decStage w 0 S = addRoundKey w 0 (invSubBytes (invShiftRows S)) := by
  rw [decStage, if_neg (by decide), if_neg (by decide)]

end

/-! ## The source's known answer, stage by stage (R202) -/

/-- The stages of `encryptBlock`, 0 upward, one by one (R202). -/
theorem encryptBlock_eq_stages (b : Block) (w : Schedule) : encryptBlock b w =
    stateToBlock (encStage w 10 (encStage w 9 (encStage w 8 (encStage w 7 (encStage w 6 (encStage w 5 (encStage w 4
      (encStage w 3 (encStage w 2 (encStage w 1 (encStage w 0 (blockToState b)))))))))))) :=
  rfl

/-- The source's key (R202). -/
def sourceKey : Block :=
  #v[0x00, 0x01, 0x02, 0x03, 0x04, 0x05, 0x06, 0x07, 0x08, 0x09, 0x0a, 0x0b, 0x0c, 0x0d, 0x0e, 0x0f]

/-- The source's plaintext (R202). -/
def sourceBlock : Block :=
  #v[0x00, 0x11, 0x22, 0x33, 0x44, 0x55, 0x66, 0x77, 0x88, 0x99, 0xaa, 0xbb, 0xcc, 0xdd, 0xee, 0xff]

/-- The schedule of the source's key, a round in each row (95_test_vectors.md section 2.5). -/
def sourceSchedule : Schedule :=
  #v[0x00010203, 0x04050607, 0x08090a0b, 0x0c0d0e0f,
     0xd6aa74fd, 0xd2af72fa, 0xdaa678f1, 0xd6ab76fe,
     0xb692cf0b, 0x643dbdf1, 0xbe9bc500, 0x6830b3fe,
     0xb6ff744e, 0xd2c2c9bf, 0x6c590cbf, 0x0469bf41,
     0x47f7f7bc, 0x95353e03, 0xf96c32bc, 0xfd058dfd,
     0x3caaa3e8, 0xa99f9deb, 0x50f3af57, 0xadf622aa,
     0x5e390f7d, 0xf7a69296, 0xa7553dc1, 0x0aa31f6b,
     0x14f9701a, 0xe35fe28c, 0x440adf4d, 0x4ea9c026,
     0x47438735, 0xa41c65b9, 0xe016baf4, 0xaebf7ad2,
     0x549932d1, 0xf0855768, 0x1093ed9c, 0xbe2c974e,
     0x13111d7f, 0xe3944a17, 0xf307a78b, 0x4d2b30c5]

/-- STATE after each stage of the source's encryption (95_test_vectors.md section 2.9). -/
def sourceState (r : Fin 11) : Quad :=
  #v[(⟨0x00102030, 0x40506070, 0x8090a0b0, 0xc0d0e0f0⟩ : Quad),
     ⟨0x89d810e8, 0x855ace68, 0x2d1843d8, 0xcb128fe4⟩,
     ⟨0x4915598f, 0x55e5d7a0, 0xdaca94fa, 0x1f0a63f7⟩,
     ⟨0xfa636a28, 0x25b339c9, 0x40668a31, 0x57244d17⟩,
     ⟨0x24724023, 0x6966b3fa, 0x6ed27532, 0x88425b6c⟩,
     ⟨0xc81677bc, 0x9b7ac93b, 0x25027992, 0xb0261996⟩,
     ⟨0xc62fe109, 0xf75eedc3, 0xcc79395d, 0x84f9cf5d⟩,
     ⟨0xd1876c0f, 0x79c4300a, 0xb45594ad, 0xd66ff41f⟩,
     ⟨0xfde3bad2, 0x05e5d0d7, 0x3547964e, 0xf1fe37f1⟩,
     ⟨0xbd6e7c3d, 0xf2b5779e, 0x0b61216e, 0x8b10b689⟩,
     ⟨0x69c4e0d8, 0x6a7b0430, 0xd8cdb780, 0x70b4c55a⟩][r]

theorem expandKey_sourceKey : expandKey (keyRegisters sourceKey) = sourceSchedule := by decide

theorem encStage_sourceBlock : encStage sourceSchedule 0 (blockToState sourceBlock) = sourceState 0 := by decide

/-- Each stage of the source's encryption takes the state before it to the next. -/
theorem encStage_sourceState :
    encStage sourceSchedule 1 (sourceState 0) = sourceState 1 ∧
      encStage sourceSchedule 2 (sourceState 1) = sourceState 2 ∧
      encStage sourceSchedule 3 (sourceState 2) = sourceState 3 ∧
      encStage sourceSchedule 4 (sourceState 3) = sourceState 4 ∧
      encStage sourceSchedule 5 (sourceState 4) = sourceState 5 ∧
      encStage sourceSchedule 6 (sourceState 5) = sourceState 6 ∧
      encStage sourceSchedule 7 (sourceState 6) = sourceState 7 ∧
      encStage sourceSchedule 8 (sourceState 7) = sourceState 8 ∧
      encStage sourceSchedule 9 (sourceState 8) = sourceState 9 ∧
      encStage sourceSchedule 10 (sourceState 9) = sourceState 10 := by
  decide

theorem encryptBlock_sourceBlock : encryptBlock sourceBlock (expandKey (keyRegisters sourceKey)) =
    #v[0x69, 0xc4, 0xe0, 0xd8, 0x6a, 0x7b, 0x04, 0x30, 0xd8, 0xcd, 0xb7, 0x80, 0x70, 0xb4, 0xc5, 0x5a] := by
  simp only [encryptBlock_eq_stages, expandKey_sourceKey, encStage_sourceBlock, encStage_sourceState]
  decide

/-! ## NOP (R211) -/

/-- The word of NOP is the only legal one with OP 0: the other three fields are 0 too, and the four make up the word. -/
theorem eq_zero_of_fieldOp_eq_zero {v : Word} (hop : fieldOp v = 0) (h : illegalClass v = none) : v = 0 := by
  obtain ⟨hrsvd, -, -, -, hrnd, -, hc⟩ := illegalClass_eq_none.mp h
  have hrnd : fieldRnd v = 0 := hrnd (by simp [hop])
  have hc : fieldC v = 0 := hc (by simp [hop])
  simp only [fieldOp, fieldRnd, fieldC, fieldRsvd, BitVec.toNat_eq, BitVec.extractLsb'_toNat,
    Nat.shiftRight_eq_div_pow, BitVec.ofNat_eq_ofNat, BitVec.toNat_ofNat] at hop hrnd hc hrsvd ⊢
  omega

/-- Rejecting for ERR_ILLEGAL, with the error bits and the cause written out (60_exceptions.md R230, R232). -/
theorem raise_errIllegal_eq (v : Word) (s : State) : raise .errIllegal 0 v s = illegalRejected v s := by
  simp [raise, illegalRejected, Rejection.code]

/-- A CMD write of an illegal word to an idle core is rejected with ERR_ILLEGAL (45_controller.md R205). -/
theorem memWrite_zero_of_illegal {v : Word} {e : Illegal} {s : State} (hv : illegalClass v = some e)
    (hb : s.busy = false) : memWrite 0 v s = .next (illegalRejected v s) := by
  rw [memWrite_cmd v s registerAt_cmd, commandWrite, decode_of_illegal hv, ← raise_errIllegal_eq]
  simp [hb]

theorem encode_nop : encode .nop = 0 := by decide

/-- An idle core lets NOP through; it needs no key. -/
theorem commandCheck_nop {s : State} (hb : s.busy = false) : commandCheck (encode .nop) s = none :=
  commandCheck_pass hb (illegalClass_encode rfl) fun h => absurd h (by decide)

end Sys2Proof.Machine
end

section
open Sys2Proof Sys2Proof.Machine

/-- Settles O45, by the branch of each stage's definition that the round index takes. -/
theorem stagesHaveTheirThreeForms : Obligations.StagesHaveTheirThreeForms := by
  unfold Obligations.StagesHaveTheirThreeForms
  exact fun w S => ⟨encStage_zero w S, fun _ h => encStage_middle w S h, encStage_ten w S,
    decStage_ten w S, fun _ h => decStage_middle w S h, decStage_zero w S⟩

/-- Settles O47: the known answer goes through the schedule and the eleven states that the spec's test vectors
list. -/
theorem knownAnswerOfTheSource : Obligations.KnownAnswerOfTheSource := by
  unfold Obligations.KnownAnswerOfTheSource
  exact ⟨encryptBlock_eq_stages, encryptBlock_sourceBlock⟩

/-- Settles O49: any other word with OP 0 has an illegal class, an idle core accepts NOP with no effect, and a busy core
rejects it by its first check. -/
theorem nopDoesNothing : Obligations.NopDoesNothing := by
  unfold Obligations.NopDoesNothing
  refine ⟨encode_nop, fun v hop hne => ?_, fun s => ⟨fun hb => ?_, fun hb => ?_⟩⟩
  · have hill : illegalClass v ≠ none := fun h => hne (eq_zero_of_fieldOp_eq_zero hop h)
    refine ⟨fun i hi => hill (exists_decode_eq_ok.mp ⟨i, hi⟩), fun s hb => ?_⟩
    obtain ⟨e, he⟩ := Option.ne_none_iff_exists'.mp hill
    exact memWrite_zero_of_illegal he hb
  · exact exec_accept (commandCheck_nop hb)
  · rw [exec_reject (commandCheck_busy _ hb), raise_errBusy_eq, encode_nop]
end

/-! Rejected host writes (60_exceptions.md): the command a legal word stands for, the one check a host write can fail,
and which writes raise which error. -/

section
namespace Sys2Proof

/-! ## The command of a legal word -/

/-- The four fields make up the word (30_encoding.md R70). -/
theorem eq_of_fields {u v : Word} (hop : fieldOp u = fieldOp v) (hrnd : fieldRnd u = fieldRnd v)
    (hc : fieldC u = fieldC v) (hrsvd : fieldRsvd u = fieldRsvd v) : u = v := by
  simp only [fieldOp, fieldRnd, fieldC, fieldRsvd, BitVec.toNat_eq, BitVec.extractLsb'_toNat,
    Nat.shiftRight_eq_div_pow] at hop hrnd hc hrsvd ⊢
  omega

theorem Instr.rnd_eq_zero {i : Instr} (h : i.opcode ≠ 0xA#4) : i.rnd = 0 := by
  cases i with
  | addRoundKey rnd => exact absurd rfl h
  | _ => rfl

theorem Instr.constant_eq_zero {i : Instr} (h : i.opcode ≠ 0xD#4) : i.constant = 0 := by
  cases i with
  | gfMulc c => exact absurd rfl h
  | _ => rfl

theorem decode_opcode {v : Word} {i : Instr} (h : decode v = .ok i) : i.opcode = fieldOp v := by
  simp only [decode, exists_decode_eq_ok.mp ⟨i, h⟩] at h
  split at h <;> cases h
  all_goals
    rename_i hop
    exact (BitVec.eq_of_toNat_eq hop).symm

/-- The command that a word decodes to has the word's own fields: RND and C are 0 where the command has no operand
there (30_encoding.md R70, R73). -/
theorem decode_fields {v : Word} {i : Instr} (h : decode v = .ok i) :
    i.opcode = fieldOp v ∧ i.rnd = fieldRnd v ∧ i.constant = fieldC v := by
  have hop := decode_opcode h
  have hlegal := exists_decode_eq_ok.mp ⟨i, h⟩
  obtain ⟨-, -, -, -, hrnd, -, hc⟩ := illegalClass_eq_none.mp hlegal
  refine ⟨hop, ?_, ?_⟩
  · by_cases hA : fieldOp v = 0xA#4
    · simp only [decode, hlegal, hA] at h
      cases h
      rfl
    · rw [hrnd hA, Instr.rnd_eq_zero (hop ▸ hA)]
  · by_cases hD : fieldOp v = 0xD#4
    · simp only [decode, hlegal, hD] at h
      cases h
      rfl
    · rw [hc hD, Instr.constant_eq_zero (hop ▸ hD)]

/-- A word that decodes to a command is that command's word. -/
theorem encode_of_decode {v : Word} {i : Instr} (h : decode v = .ok i) : encode i = v := by
  obtain ⟨hop, hrnd, hc⟩ := decode_fields h
  obtain ⟨hrsvd, -⟩ := illegalClass_eq_none.mp (exists_decode_eq_ok.mp ⟨i, h⟩)
  apply eq_of_fields <;> simp [encode, *]

end Sys2Proof

namespace Sys2Proof.Machine

/-- The commands whose word needs the schedule (45_controller.md R205). -/
theorem needsSchedule_encode {i : Instr} :
    needsSchedule (encode i) = true ↔ i = .encrypt ∨ i = .decrypt ∨ ∃ rnd, i = .addRoundKey rnd := by
  cases i <;> simp [needsSchedule, encode, Instr.opcode]

/-- The classes as the statements read them off the word's bits are those of `illegalClass` (30_encoding.md R74). -/
theorem illegalByClass_iff {v : Word} : IllegalByClass v ↔ illegalClass v ≠ none := by
  rw [Ne, illegalClass_eq_none]
  simp only [IllegalByClass, fieldOp, fieldRnd, fieldC, fieldRsvd, cset]
  grind

/-! ## The check of a CMD write -/

theorem commandCheck_eq_errBusy {v : Word} {s : State} : commandCheck v s = some .errBusy ↔ s.busy = true := by
  unfold commandCheck
  split_ifs <;> simp_all

theorem commandCheck_eq_errIllegal {v : Word} {s : State} :
    commandCheck v s = some .errIllegal ↔ s.busy = false ∧ illegalClass v ≠ none := by
  unfold commandCheck
  split_ifs <;> simp_all [Option.isSome_iff_ne_none]

theorem commandCheck_eq_errNoKey {v : Word} {s : State} : commandCheck v s = some .errNoKey ↔
    s.busy = false ∧ illegalClass v = none ∧ needsSchedule v = true ∧ s.keyValid = false := by
  unfold commandCheck
  split_ifs <;> simp_all [Option.isSome_iff_ne_none]

theorem commandWrite_reject {v : Word} {s : State} {e : Rejection} (h : commandCheck v s = some e) :
    commandWrite v s = .next (raise e 0 v s) := by
  unfold commandWrite
  split
  case h_1 i hd =>
    obtain rfl := encode_of_decode hd
    exact exec_reject h
  case h_2 c hd =>
    have hv : illegalClass v ≠ none := fun hv => by
      obtain ⟨i, hi⟩ := exists_decode_of_legal hv
      cases hd.symm.trans hi
    cases hb : s.busy with
    | true =>
      cases h.symm.trans (commandCheck_busy v hb)
      rfl
    | false =>
      cases h.symm.trans (commandCheck_eq_errIllegal.mpr ⟨hb, hv⟩)
      rfl

theorem commandWrite_accept {v : Word} {s : State} (h : commandCheck v s = none) :
    ∃ i, commandWrite v s = .next (acceptance i s) := by
  obtain ⟨-, hv, -⟩ := commandCheck_eq_none.mp h
  obtain ⟨i, hd⟩ := exists_decode_of_legal hv
  obtain rfl := encode_of_decode hd
  refine ⟨i, ?_⟩
  rw [commandWrite, hd]
  exact exec_accept h

/-- Rejecting for ERR_NOKEY, with the error bits and the cause written out (60_exceptions.md R230, R233). -/
theorem raise_errNoKey_eq (v : Word) (s : State) : raise .errNoKey 0 v s = noKeyRejected v s := by
  simp [raise, noKeyRejected, Rejection.code]

/-- A CMD write of an illegal word to an idle core is rejected with ERR_ILLEGAL (60_exceptions.md R232). -/
theorem memWrite_zero_of_illegalByClass {v : Word} {s : State} (hb : s.busy = false) (hv : IllegalByClass v) :
    memWrite 0 v s = .next (illegalRejected v s) := by
  obtain ⟨c, hc⟩ := Option.ne_none_iff_exists'.mp (illegalByClass_iff.mp hv)
  exact memWrite_zero_of_illegal hc hb

/-! ## The STATUS bit of a rejection -/

/-- The STATUS bit of a rejection (60_exceptions.md R231 to R233). -/
def Rejection.flag (e : Rejection) (s : State) : Bool :=
  match e with
  | .errBusy => s.errBusy
  | .errIllegal => s.errIllegal
  | .errNoKey => s.errNoKey

/-- A rejection sets its own bit and leaves the other two (60_exceptions.md R230). -/
theorem flag_raise (e e' : Rejection) (off : BitVec 10) (v : Word) (s : State) :
    e.flag (raise e' off v s) = (e.flag s || decide (e' = e)) := by
  cases e <;> rfl

theorem flag_acceptance (e : Rejection) (i : Instr) (s : State) : e.flag (acceptance i s) = e.flag s := by
  cases e <;> cases i <;> rfl

theorem flag_of_flag_clearErrors {e : Rejection} {v : Word} {s : State} (h : e.flag (clearErrors v s) = true) :
    e.flag s = true := by
  cases e <;> exact (Bool.and_eq_true_iff.mp h).1

/-- A CMD write sets exactly the bit of the check it fails (60_exceptions.md R234). -/
theorem commandWrite_flag (e : Rejection) (v : Word) (s : State) : ∃ t, commandWrite v s = .next t ∧
    e.flag t = (e.flag s || decide (commandCheck v s = some e)) := by
  cases h : commandCheck v s with
  | none =>
    obtain ⟨i, hi⟩ := commandWrite_accept h
    exact ⟨_, hi, by simp [flag_acceptance]⟩
  | some e' => exact ⟨_, commandWrite_reject h, by simp [flag_raise]⟩

theorem flag_putOperand (e : Rejection) (v : Word) (s : State) : e.flag (putOperand v s) = e.flag s := by
  cases e <;> rfl

theorem flag_putKeyWord (e : Rejection) (k : Fin 4) (v : Word) (s : State) :
    e.flag (putKeyWord k v s) = e.flag s := by
  cases e <;> rfl

theorem flag_putStateWord (e : Rejection) (c : Fin 4) (v : Word) (s : State) :
    e.flag (putStateWord c v s) = e.flag s := by
  cases e <;> rfl

/-- The three bits after a STATUS write (60_exceptions.md R235). -/
theorem clearErrors_eq (v : Word) (s : State) : clearErrors v s = { s with
    errBusy := if v.getLsbD 4 then false else s.errBusy
    errIllegal := if v.getLsbD 5 then false else s.errIllegal
    errNoKey := if v.getLsbD 6 then false else s.errNoKey } := by
  simp [clearErrors, Bool.and_comm]

/-! ## The check of any host write -/

/-- The registers whose writes are rejected while BUSY is 1 (60_exceptions.md R231). -/
def Register.guarded (r : Register) : Bool :=
  match r with
  | .cmd | .byteIo | .key _ | .state _ => true
  | .status | .errinfo | .errcmd | .w _ | .reserved => false

theorem guarded_registerAt {off : BitVec 10} : (registerAt off).guarded = true ↔
    off.toNat = 0 ∨ off.toNat = 4 ∨ (8 ≤ off.toNat ∧ off.toNat ≤ 15) := by
  unfold registerAt
  simp only
  split_ifs <;> simp only [Register.guarded, true_iff, Bool.false_eq_true, false_iff] <;> omega

/-- The check a host write fails, if it fails one: those of a CMD write, and ERR_BUSY for the other guarded registers
(60_exceptions.md section 2). -/
def writeCheck (off : BitVec 10) (v : Word) (s : State) : Option Rejection :=
  if registerAt off = .cmd then commandCheck v s
  else if (registerAt off).guarded && s.busy then some .errBusy
  else none

theorem writeCheck_zero (v : Word) (s : State) : writeCheck 0 v s = commandCheck v s := if_pos registerAt_cmd

theorem writeCheck_eq_errBusy {off : BitVec 10} {v : Word} {s : State} :
    writeCheck off v s = some .errBusy ↔ s.busy = true ∧ (registerAt off).guarded = true := by
  unfold writeCheck
  split_ifs with hcmd hg
  · simp [commandCheck_eq_errBusy, hcmd, Register.guarded]
  · simpa [and_comm] using hg
  · simpa [and_comm] using hg

/-- Outside CMD the only check is ERR_BUSY (60_exceptions.md R234). -/
theorem eq_zero_of_writeCheck {off : BitVec 10} {v : Word} {s : State} {e : Rejection}
    (h : writeCheck off v s = some e) (he : e ≠ .errBusy) : off = 0 := by
  by_contra hoff
  rw [writeCheck, if_neg (mt registerAt_eq_cmd.mp hoff)] at h
  split at h <;> simp_all

/-- A write to a guarded register of a busy core is rejected with ERR_BUSY (60_exceptions.md R231). -/
theorem memWrite_busy {off : BitVec 10} {s : State} (hg : (registerAt off).guarded = true) (hb : s.busy = true)
    (v : Word) : memWrite off v s = .next (busyRejected off v s) := by
  cases hr : registerAt off with
  | cmd =>
    obtain rfl := registerAt_eq_cmd.mp hr
    rw [memWrite_cmd v s hr, commandWrite_reject (commandCheck_busy v hb), raise_errBusy_eq]
  | byteIo => rw [memWrite_byteIo v s hr, if_pos hb]
  | key k => rw [memWrite_key v s hr, if_pos hb]
  | state c => rw [memWrite_state v s hr, if_pos hb]
  | _ => simp [hr, Register.guarded] at hg

/-- A write that fails a check is rejected with that check's cause (60_exceptions.md R230). -/
theorem memWrite_reject {off : BitVec 10} {v : Word} {s : State} {e : Rejection}
    (h : writeCheck off v s = some e) : memWrite off v s = .next (raise e off v s) := by
  by_cases he : e = .errBusy
  · subst he
    obtain ⟨hb, hg⟩ := writeCheck_eq_errBusy.mp h
    rw [memWrite_busy hg hb, raise_errBusy_eq]
  · obtain rfl := eq_zero_of_writeCheck h he
    rw [memWrite_cmd v s registerAt_cmd, commandWrite_reject (writeCheck_zero v s ▸ h)]

/-- A write that fails no check sets no error bit; a STATUS write may clear some (60_exceptions.md R235). -/
theorem flag_of_writeCheck_none {off : BitVec 10} {v : Word} {s t : State} {e : Rejection}
    (h : writeCheck off v s = none) (ht : memWrite off v s = .next t) (hflag : e.flag t = true) : e.flag s = true := by
  have hidle (hg : (registerAt off).guarded = true) : ¬ s.busy = true := fun hb => by
    cases h.symm.trans (writeCheck_eq_errBusy.mpr ⟨hb, hg⟩)
  cases hr : registerAt off with
  | cmd =>
    obtain rfl := registerAt_eq_cmd.mp hr
    obtain ⟨i, hi⟩ := commandWrite_accept (writeCheck_zero v s ▸ h)
    cases (memWrite_cmd v s hr ▸ hi).symm.trans ht
    exact flag_acceptance e i s ▸ hflag
  | status =>
    cases (memWrite_status v s hr).symm.trans ht
    exact flag_of_flag_clearErrors hflag
  | byteIo =>
    rw [memWrite_byteIo v s hr, if_neg (hidle (by rw [hr]; rfl))] at ht
    cases ht
    exact flag_putOperand .. ▸ hflag
  | key k =>
    rw [memWrite_key v s hr, if_neg (hidle (by rw [hr]; rfl))] at ht
    cases ht
    exact flag_putKeyWord .. ▸ hflag
  | state c =>
    rw [memWrite_state v s hr, if_neg (hidle (by rw [hr]; rfl))] at ht
    cases ht
    exact flag_putStateWord .. ▸ hflag
  | _ =>
    rw [memWrite_ignored v s (by simp [IgnoresWrites, hr])] at ht
    cases ht
    exact hflag

/-- An error bit that a host write newly sets is that of the check the write fails. -/
theorem writeCheck_of_flag {off : BitVec 10} {v : Word} {s t : State} {e : Rejection}
    (ht : memWrite off v s = .next t) (hs : e.flag s = false) (hflag : e.flag t = true) :
    writeCheck off v s = some e := by
  cases h : writeCheck off v s with
  | none => exact absurd (flag_of_writeCheck_none h ht hflag) (by simp [hs])
  | some e' =>
    cases (memWrite_reject h).symm.trans ht
    simpa [flag_raise, hs] using hflag

end Sys2Proof.Machine
end

section
open Sys2Proof Sys2Proof.Machine

/-- Settles O12, by the definition of `raise` with the error bits and the cause written out. -/
theorem rejectionRecordsItselfAndNothingElse : Obligations.RejectionRecordsItselfAndNothingElse := by
  unfold Obligations.RejectionRecordsItselfAndNothingElse
  exact fun s off v => ⟨raise_errBusy_eq off v s, by simp [raise, Rejection.code], by simp [raise, Rejection.code]⟩

/-- Settles O16, by the register at the offset. -/
theorem statusWriteClearsTheNamedErrors : Obligations.StatusWriteClearsTheNamedErrors := by
  unfold Obligations.StatusWriteClearsTheNamedErrors
  intro s v
  rw [memWrite_status v s registerAt_status, memWrite_status _ s registerAt_status]
  exact ⟨by rw [clearErrors_eq], by simp [clearErrors_eq]⟩

/-- Settles O10: a busy core rejects a guarded write, and a write that sets ERR_BUSY fails that check. -/
theorem writeWhileBusyIsRejected : Obligations.WriteWhileBusyIsRejected := by
  unfold Obligations.WriteWhileBusyIsRejected
  intro s off v
  refine ⟨fun hb hoff => memWrite_busy (guarded_registerAt.mpr hoff) hb v, fun t ht hs hflag => ?_⟩
  obtain ⟨hb, hg⟩ := writeCheck_eq_errBusy.mp (writeCheck_of_flag (e := .errBusy) ht hs hflag)
  exact ⟨hb, guarded_registerAt.mp hg⟩

/-- Settles O13: a CMD write sets exactly the bit of the check it fails. -/
theorem illegalCommandWordIsRejected : Obligations.IllegalCommandWordIsRejected := by
  unfold Obligations.IllegalCommandWordIsRejected
  refine fun s v hb => ⟨memWrite_zero_of_illegalByClass hb, fun hv => ?_⟩
  obtain ⟨t, ht, hflag⟩ := commandWrite_flag .errIllegal v s
  refine ⟨t, (memWrite_cmd v s registerAt_cmd).trans ht, hflag.trans ?_⟩
  simp [commandCheck_eq_errIllegal, mt illegalByClass_iff.mpr hv, Rejection.flag]

/-- Settles O14: the check of a key is the one that the three commands fail, and a write that sets ERR_NOKEY fails that
check, so it is a CMD write of a word that needs the schedule. -/
theorem commandWithoutKeyIsRejected : Obligations.CommandWithoutKeyIsRejected := by
  unfold Obligations.CommandWithoutKeyIsRejected
  refine ⟨fun s i hb hk hi => ?_, fun s t off v ht hs hflag => ?_⟩
  · have hwf : i.wellFormed = true := by
      obtain rfl | rfl | ⟨rnd, hrnd, rfl⟩ := hi
      · rfl
      · rfl
      · exact decide_eq_true hrnd
    have hn : needsSchedule (encode i) = true :=
      needsSchedule_encode.mpr (hi.imp_right (.imp_right fun ⟨rnd, _, h⟩ => ⟨rnd, h⟩))
    rw [exec_reject (commandCheck_noKey hb (illegalClass_encode hwf) hn hk), raise_errNoKey_eq]
  · have hw := writeCheck_of_flag (e := .errNoKey) ht hs hflag
    obtain rfl := eq_zero_of_writeCheck hw (by decide)
    obtain ⟨hb, hv, hn, hk⟩ := commandCheck_eq_errNoKey.mp (writeCheck_zero v s ▸ hw)
    obtain ⟨i, hd⟩ := exists_decode_of_legal hv
    exact ⟨rfl, hb, hk, i, hd, needsSchedule_encode.mp (encode_of_decode hd ▸ hn)⟩

/-- Settles O15: each clause is the first check that the CMD write fails, and no other write fails a check but that of
ERR_BUSY. -/
theorem rejectionPriorityIsBusyIllegalNoKey : Obligations.RejectionPriorityIsBusyIllegalNoKey := by
  unfold Obligations.RejectionPriorityIsBusyIllegalNoKey
  refine fun s v => ⟨fun hb => ?busy, fun hb hv => ?illegal, fun hb hv hop hk => ?noKey, fun off t hoff ht => ?other⟩
  case busy => exact memWrite_busy (by decide) hb v
  case illegal => exact memWrite_zero_of_illegalByClass hb hv
  case noKey =>
    have hn : needsSchedule v = true := decide_eq_true (by simpa [fieldOp] using hop)
    have hlegal : illegalClass v = none := by_contra fun h => hv (illegalByClass_iff.mpr h)
    rw [memWrite_reject ((writeCheck_zero v s).trans (commandCheck_noKey hb hlegal hn hk)), raise_errNoKey_eq]
  case other =>
    have hkeeps (e : Rejection) (he : e ≠ .errBusy) (hflag : e.flag t = true) : e.flag s = true := by
      by_contra hs
      exact hoff (eq_zero_of_writeCheck (writeCheck_of_flag ht (by simpa using hs) hflag) he)
    exact ⟨hkeeps .errIllegal (by decide), hkeeps .errNoKey (by decide)⟩
end

section
open Sys2Proof Sys2Proof.Machine

/-- Settles O18: in a reset cycle the step is `resetCycle`, which takes no access and keeps nothing of the state but the
pins still to come and the count of draws; each clause is its field lemma. -/
theorem resetCycleResetsEverythingButTheSchedule : Obligations.ResetCycleResetsEverythingButTheSchedule := by
  unfold Obligations.ResetCycleResetsEverythingButTheSchedule
  intro s hrst
  refine ⟨resetCycle s, step_reset hrst, resetCycle_key s, resetCycle_state s, ?_⟩
  simp
end

/-! The encoder (30_encoding.md sections 1 to 4): decode and encode are inverse to each other on the well-formed
commands, and the value of a command word. -/

section
namespace Sys2Proof

/-! ## Decode undoes encode -/

/-- The three fields of a command determine it (R70). -/
theorem Instr.eq_of_fields {i j : Instr} (hop : i.opcode = j.opcode) (hrnd : i.rnd = j.rnd)
    (hc : i.constant = j.constant) : i = j := by
  cases i <;> cases j <;> simp_all [Instr.opcode, Instr.rnd, Instr.constant]

/-- A legal word that encodes a command decodes to it. -/
theorem decode_encode_of_legal {i : Instr} (h : illegalClass (encode i) = none) : decode (encode i) = .ok i := by
  obtain ⟨j, hj⟩ := exists_decode_of_legal h
  obtain ⟨hop, hrnd, hc⟩ := decode_fields hj
  have hji : j = i := Instr.eq_of_fields (by simpa [encode] using hop) (by simpa [encode] using hrnd)
    (by simpa [encode] using hc)
  rw [hj, hji]

/-- A word that decodes passes the operand tests of R73, so its command is well-formed. -/
theorem wellFormed_of_decode {v : Word} {i : Instr} (h : decode v = .ok i) : i.wellFormed = true := by
  obtain ⟨hop, hrnd, hc⟩ := decode_fields h
  obtain ⟨-, -, -, hround, -, hconst, -⟩ := illegalClass_eq_none.mp (exists_decode_eq_ok.mp ⟨i, h⟩)
  cases i with
  | addRoundKey rnd =>
    have hrnd : rnd = fieldRnd v := hrnd
    exact decide_eq_true (hrnd ▸ hround hop.symm)
  | gfMulc c =>
    have hc : c = fieldC v := hc
    exact List.contains_iff_mem.mpr (hc ▸ hconst hop.symm)
  | _ => rfl

/-- Exactly the well-formed commands encode to a legal word (R71, R73). -/
theorem illegalClass_encode_eq_none {i : Instr} : illegalClass (encode i) = none ↔ i.wellFormed = true :=
  ⟨fun h => wellFormed_of_decode (decode_encode_of_legal h), Machine.illegalClass_encode⟩

theorem decode_eq_ok_iff {v : Word} {i : Instr} : decode v = .ok i ↔ i.wellFormed = true ∧ encode i = v := by
  refine ⟨fun h => ⟨wellFormed_of_decode h, encode_of_decode h⟩, ?_⟩
  rintro ⟨hwf, rfl⟩
  exact decode_encode_of_legal (illegalClass_encode_eq_none.mpr hwf)

/-! ## The value of a command word -/

/-- The fields of a command word from the most significant one down (R70). -/
theorem enc_eq_append (op rnd : BitVec 4) (c : Byte) : enc op rnd c = 0#16 ++ c ++ rnd ++ op := by
  apply BitVec.eq_of_getLsbD_eq
  intro i hi
  iterate 3 rw [BitVec.getLsbD_append]
  interval_cases i <;> simp [enc]

theorem toNat_enc (op rnd : BitVec 4) (c : Byte) :
    (enc op rnd c).toNat = 256 * c.toNat + 16 * rnd.toNat + op.toNat := by
  rw [enc_eq_append, BitVec.toNat_append, BitVec.toNat_append, BitVec.toNat_append,
    ← Nat.shiftLeft_add_eq_or_of_lt op.isLt, ← Nat.shiftLeft_add_eq_or_of_lt rnd.isLt]
  simp [Nat.shiftLeft_eq]
  omega

/-- The fields of a legal word, whose RSVD is 0, rebuild it (R73, R76). -/
theorem enc_fields {v : Word} (h : illegalClass v = none) : enc (fieldOp v) (fieldRnd v) (fieldC v) = v := by
  obtain ⟨hrsvd, -⟩ := illegalClass_eq_none.mp h
  apply eq_of_fields <;> simp [hrsvd]

/-! ## The legal words by value -/

/-- The values of the 30 legal words by the three kinds of command: without an operand, with a round index, with a
constant (R72, R73). -/
def LegalValue (n : ℕ) : Prop :=
  n ∈ [0x0, 0x1, 0x2, 0x3, 0x4, 0x5, 0x6, 0x7, 0x8, 0x9, 0xB, 0xC] ∨ (∃ rnd, rnd ≤ 10 ∧ n = 16 * rnd + 0xA) ∨
    ∃ c ∈ [0x01, 0x02, 0x03, 0x09, 0x0B, 0x0D, 0x0E], n = 256 * c + 0xD

theorem legalValue_encode {i : Instr} (h : i.wellFormed = true) : LegalValue (encode i).toNat := by
  cases i with
  | addRoundKey rnd =>
    refine .inr (.inl ⟨rnd.toNat, of_decide_eq_true h, ?_⟩)
    simp [encode, toNat_enc, Instr.opcode, Instr.rnd, Instr.constant]
  | gfMulc c =>
    refine .inr (.inr ⟨c.toNat, List.mem_map_of_mem (f := BitVec.toNat) (List.contains_iff_mem.mp h), ?_⟩)
    simp [encode, toNat_enc, Instr.opcode, Instr.rnd, Instr.constant]
  | _ => exact .inl (by decide)

theorem exists_encode_of_legalValue {n : ℕ} (h : LegalValue n) :
    ∃ i : Instr, i.wellFormed = true ∧ (encode i).toNat = n := by
  obtain h | ⟨rnd, hrnd, rfl⟩ | ⟨c, hc, rfl⟩ := h
  · have hall : ∀ n ∈ [0x0, 0x1, 0x2, 0x3, 0x4, 0x5, 0x6, 0x7, 0x8, 0x9, 0xB, 0xC],
        ∃ i ∈ [Instr.nop, .keyExpand, .encrypt, .decrypt, .subBytes, .invSubBytes, .shiftRows, .invShiftRows,
          .mixColumns, .invMixColumns, .sbox, .invSbox], i.wellFormed = true ∧ (encode i).toNat = n := by decide
    obtain ⟨i, -, hi⟩ := hall n h
    exact ⟨i, hi⟩
  · refine ⟨.addRoundKey (BitVec.ofNat 4 rnd), ?_⟩
    interval_cases rnd <;> decide
  · refine ⟨.gfMulc (BitVec.ofNat 8 c), ?_⟩
    revert c
    decide

theorem exists_decode_iff_legalValue {v : Word} : (∃ i, decode v = .ok i) ↔ LegalValue v.toNat := by
  simp only [decode_eq_ok_iff]
  constructor
  · rintro ⟨i, hwf, rfl⟩
    exact legalValue_encode hwf
  · intro h
    obtain ⟨i, hwf, hi⟩ := exists_encode_of_legalValue h
    exact ⟨i, hwf, BitVec.eq_of_toNat_eq hi⟩

end Sys2Proof

namespace Sys2Proof.Machine

/-- The word of a command whose operand is out of range is illegal, and an idle core rejects it so. -/
theorem commandCheck_of_not_wellFormed {i : Instr} {s : State} (hb : s.busy = false) (hi : i.wellFormed = false) :
    commandCheck (encode i) s = some .errIllegal :=
  commandCheck_eq_errIllegal.mpr ⟨hb, fun h => by simp [illegalClass_encode_eq_none.mp h] at hi⟩

end Sys2Proof.Machine
end

section
open Sys2Proof Sys2Proof.Machine

/-- Settles O1: a word that decodes passes the tests of R73 and is rebuilt from its fields, and the fields of an encoded
command determine it. -/
theorem decodeAndEncodeAgree : Obligations.DecodeAndEncodeAgree := by
  unfold Obligations.DecodeAndEncodeAgree
  exact fun v i => decode_eq_ok_iff

/-- Settles O2: the legal words are the words of the well-formed commands, so their values are those of `encode`. -/
theorem encodingFunctionRebuildsTheThirtyLegalWords : Obligations.EncodingFunctionRebuildsTheThirtyLegalWords := by
  unfold Obligations.EncodingFunctionRebuildsTheThirtyLegalWords
  exact ⟨enc_eq_append, fun i => ⟨rfl, Instr.rnd_eq_zero, Instr.constant_eq_zero⟩,
    fun v i h => enc_fields (exists_decode_eq_ok.mp ⟨i, h⟩), fun v => exists_decode_iff_legalValue⟩

/-- Settles O4, by evaluating the decoder on each word. -/
theorem sampleWordsDecode : Obligations.SampleWordsDecode := by
  unfold Obligations.SampleWordsDecode
  decide

/-- Settles O11: both rejections are the first check that the command's word fails. -/
theorem commandOnBusyCoreOrWithBadOperandIsRejected : Obligations.CommandOnBusyCoreOrWithBadOperandIsRejected := by
  unfold Obligations.CommandOnBusyCoreOrWithBadOperandIsRejected
  refine fun i s => ⟨fun hb => ?_, fun hb hi => ?_⟩
  · rw [exec_reject (commandCheck_busy _ hb), raise_errBusy_eq]
  · rw [exec_reject (commandCheck_of_not_wellFormed hb hi), raise_errIllegal_eq]
end

/-! Cycles (20_memory.md section 5): the step of each kind of cycle, an idle core without accesses and a held reset. -/

section
namespace Sys2Proof.Machine

/-! ## The pins of the coming cycle and of those after it -/

theorem pins_eq_of_port {s : State} {p : BusCycle} {rest : List BusCycle} (h : s.port = p :: rest) : s.pins = p := by
  simp [State.pins, h]

theorem pins_of_port_write {s : State} {off : BitVec 10} {v : Word} {rest : List BusCycle}
    (h : s.port = writeCycle off v :: rest) : s.pins.rst = false ∧ s.pins.access = .write off v := by
  rw [pins_eq_of_port h]
  exact ⟨rfl, rfl⟩

/-- What holds of the next `n + 1` cycles holds of the coming one, an exhausted list being idle (log entry 2), and of
the `n` after it. -/
theorem pins_and_tail_of_take {P : BusCycle → Prop} (hidle : P idleCycle) {s : State} {n : ℕ}
    (h : ∀ p ∈ s.port.take (n + 1), P p) : P s.pins ∧ ∀ p ∈ s.port.tail.take n, P p := by
  unfold State.pins
  cases hp : s.port with
  | nil => simpa using hidle
  | cons p rest => simpa [hp] using h

/-! ## The step of each kind of cycle (R62) -/

section
variable {s : State} {off : BitVec 10} {v : Word}

/-- The host's write acts on the state with the pins used up and read data 0. -/
theorem hostAccess_write (ha : s.pins.access = .write off v) :
    hostAccess s.pins.access (tick (busReadData s.pins s) s) = memWrite off v (tick 0 s) := by
  simp [busReadData, ha, hostAccess]

theorem step_idle_write (hr : s.pins.rst = false) (hb : s.busy = false) (ha : s.pins.access = .write off v) :
    step s = memWrite off v (tick 0 s) := by
  rw [step_idle hr hb, hostAccess_write ha]

theorem step_busy_write (hr : s.pins.rst = false) (hb : s.busy = true) (ha : s.pins.access = .write off v) :
    step s = andThen (memWrite off v (tick 0 s)) controllerStep := by
  rw [step_busy hr hb, hostAccess_write ha]

/-- On an idle core a command on the bus runs (45_controller.md R205). -/
theorem step_command {i : Instr} (hb : s.busy = false) (h : CommandOnBus i s) : step s = exec i (tick 0 s) := by
  obtain ⟨hr, v, ha, hd⟩ := h
  rw [step_idle_write hr hb ha, memWrite_cmd v _ registerAt_cmd, commandWrite, hd]

/-- A write that a busy core rejects takes effect beside the controller's step (R63). -/
theorem step_busy_rejected (hr : s.pins.rst = false) (hb : s.busy = true) (ha : s.pins.access = .write off v)
    (hg : (registerAt off).guarded = true) : step s = controllerStep (busyRejected off v (tick 0 s)) := by
  rw [step_busy_write hr hb ha, memWrite_busy (s := tick 0 s) hg hb, andThen_next]

/-- A cycle without an access: the controller alone acts. -/
theorem step_no_access (hr : s.pins.rst = false) (hv : s.pins.valid = false) :
    step s = if s.busy then controllerStep (tick 0 s) else .next (tick 0 s) := by
  have ha : s.pins.access = .idle := by simp [BusCycle.access, hv]
  rw [step_no_write hr (by simp [ha])]
  simp [busReadData, ha]

end

theorem tick_eq_of_port {s : State} {p : BusCycle} {rest : List BusCycle} (h : s.port = p :: rest) (rd : Word) :
    tick rd s = { s with port := rest, rdata := rd } := by
  simp [tick, h]

/-! ## Several cycles -/

theorem run_succ_eq_andThen (n : ℕ) (s : State) :
    Host.Core.run core (n + 1) s = andThen (step s) (Host.Core.run core n) := by
  cases h : step s with
  | next t => exact run_succ h n
  | fault r => simp only [Host.Core.run, show core.step s = .fault r from h]; rfl
  | refused r => simp only [Host.Core.run, show core.step s = .refused r from h]; rfl

/-- Inversion of a run at its first step. -/
theorem run_succ_eq_next {n : ℕ} {s t : State} : Host.Core.run core (n + 1) s = .next t ↔
    ∃ u, step s = .next u ∧ Host.Core.run core n u = .next t := by
  rw [run_succ_eq_andThen]
  exact andThen_eq_next

/-- A run goes on from the next state that its first `m` steps answer. -/
theorem run_add {m : ℕ} {s u : State} (h : Host.Core.run core m s = .next u) (n : ℕ) :
    Host.Core.run core (m + n) s = Host.Core.run core n u := by
  induction m generalizing s with
  | zero =>
    cases h
    rw [Nat.zero_add]
  | succ m ih =>
    obtain ⟨t, hstep, hrun⟩ := run_succ_eq_next.mp h
    rw [Nat.add_right_comm, run_succ hstep, ih hrun]

/-- An idle core without an access or a reset only uses up the pins of its cycles. -/
theorem run_quiet_idle (n : ℕ) {s : State} (hb : s.busy = false)
    (hq : ∀ p ∈ s.port.take (n + 1), p.rst = false ∧ p.valid = false) :
    Host.Core.run core (n + 1) s = .next { s with port := s.port.drop (n + 1), rdata := 0 } := by
  induction n generalizing s with
  | zero =>
    obtain ⟨⟨hr, hv⟩, -⟩ := pins_and_tail_of_take (by decide) hq
    rw [run_succ (t := tick 0 s) (by rw [step_no_access hr hv, hb]; rfl), List.drop_one]
    rfl
  | succ n ih =>
    obtain ⟨⟨hr, hv⟩, htail⟩ := pins_and_tail_of_take (by decide) hq
    rw [run_succ (t := tick 0 s) (by rw [step_no_access hr hv, hb]; rfl), ih (s := tick 0 s) hb htail]
    simp [tick]

/-- After a run of reset cycles the core is as its last one leaves it, whatever the state before. -/
theorem run_reset {p : BusCycle} {ps rest : List BusCycle} {s : State} (hp : s.port = p :: ps ++ rest)
    (hrst : ∀ q ∈ p :: ps, q.rst = true) :
    ∃ r, Host.Core.run core (ps.length + 1) s = .next (resetCycle r) ∧ (resetCycle r).port = rest := by
  have hr : s.pins.rst = true := by
    rw [pins_eq_of_port (p := p) hp]
    exact hrst p List.mem_cons_self
  induction ps generalizing p s with
  | nil => exact ⟨s, run_succ (step_reset hr) 0, by simp [hp]⟩
  | cons q ps ih =>
    obtain ⟨hp', hps⟩ := List.forall_mem_cons.mp hrst
    have hport : (resetCycle s).port = q :: ps ++ rest := by simp [hp]
    obtain ⟨r, hrun, hrest⟩ := ih hport hps (by rw [pins_eq_of_port (p := q) hport]; exact hps q List.mem_cons_self)
    exact ⟨r, (run_succ (step_reset hr) _).trans hrun, hrest⟩

end Sys2Proof.Machine
end

section
open Sys2Proof Sys2Proof.Machine

/-- Settles O5: a CMD write is the memory write at offset 0, which decodes its word on an idle core and fails the first
check on a busy one. -/
theorem stepRunsTheDecodedCommand : Obligations.StepRunsTheDecodedCommand := by
  unfold Obligations.StepRunsTheDecodedCommand
  refine ⟨fun s v i rest hp hd => ?command, fun s off v rest hp => ?write, fun s p rest hp hr hv => ?quiet⟩
  case command =>
    obtain ⟨hr, ha⟩ := pins_of_port_write hp
    rw [← tick_eq_of_port hp]
    exact ⟨fun hb => step_command hb ⟨hr, v, ha, hd⟩, fun hb => step_busy_rejected hr hb ha (by decide)⟩
  case write =>
    obtain ⟨hr, ha⟩ := pins_of_port_write hp
    rw [← tick_eq_of_port hp]
    exact ⟨fun hb => step_idle_write hr hb ha, fun hb => step_busy_write hr hb ha⟩
  case quiet =>
    have hstep := step_no_access (s := s) (by rw [pins_eq_of_port hp, hr]) (by rw [pins_eq_of_port hp, hv])
    rw [tick_eq_of_port hp] at hstep
    exact ⟨fun hb => by simp [hstep, hb], fun hb => by simp [hstep, hb]⟩

/-- Settles O6, by induction on the number of cycles. -/
theorem idleCoreKeepsItsState : Obligations.IdleCoreKeepsItsState := by
  unfold Obligations.IdleCoreKeepsItsState
  exact fun n s hb hq => run_quiet_idle n hb hq

/-- Settles O8: each field and each reserved place is found by counting the widths of the fields below it. -/
theorem statusWordShowsItsFields : Obligations.StatusWordShowsItsFields := by
  unfold Obligations.StatusWordShowsItsFields
  intro s
  refine ⟨?_, ?_, ?_, ?_, ?_, ?_, ?_, ?_, ?_, ?_, ?_, ?_, ?_, ?_⟩
  iterate 8
    · rw [statusWord]
      repeat rw [BitVec.getLsbD_append]
      simp
  iterate 6
    · ext i hi
      rw [statusWord, BitVec.getElem_extractLsb']
      repeat rw [BitVec.getLsbD_append]
      interval_cases i <;> simp

/-- Settles O17: each clause is a field of `State.reset`. -/
theorem resetStateIsIdleAndZero : Obligations.ResetStateIsIdleAndZero := by
  unfold Obligations.ResetStateIsIdleAndZero
  refine ⟨rfl, rfl, ?_⟩
  simp [State.reset]

/-- Settles O19: RST_CYCLES is at least 1, so a reset cycle comes last and leaves the state of `resetCycle`. -/
theorem heldResetLeavesAnIdleCore : Obligations.HeldResetLeavesAnIdleCore := by
  unfold Obligations.HeldResetLeavesAnIdleCore
  intro s hlen hrst
  cases htake : s.port.take Config.rstCycles with
  | nil =>
    have hpos : 0 < Config.rstCycles := Nat.succ_pos _
    have hzero : Config.rstCycles = 0 := by simpa [hlen] using congrArg List.length htake
    omega
  | cons p ps =>
    have hn : Config.rstCycles = ps.length + 1 := by simpa [hlen] using congrArg List.length htake
    have hport : s.port = p :: ps ++ s.port.drop Config.rstCycles := by rw [← htake, List.take_append_drop]
    obtain ⟨r, hrun, hrest⟩ := run_reset hport (htake ▸ hrst)
    exact ⟨resetCycle r, hn ▸ hrun, rfl, rfl, rfl, rfl, hrest⟩
end

/-! GF(2^8) (40_gf_arith.md section 1): bytes as polynomials over the field of two elements, and the multiplier's seven
functions as products modulo the reduction polynomial. -/

section
namespace Sys2Proof.Machine

open Polynomial

/-! ## Bytes as polynomials -/

/-- The polynomial `b7 x^7 + ... + b0` of a byte (R101). -/
noncomputable def bytePoly (b : Byte) : Polynomial (ZMod 2) :=
  ∑ i ∈ Finset.range 8, if b.getLsbD i then X ^ i else 0

/-- The reduction polynomial (R101). -/
noncomputable def reductionPoly : Polynomial (ZMod 2) := X ^ 8 + X ^ 4 + X ^ 3 + X + 1

/-- XOR adds coefficients modulo 2. -/
theorem bytePoly_xor (a b : Byte) : bytePoly (a ^^^ b) = bytePoly a + bytePoly b := by
  unfold bytePoly
  rw [← Finset.sum_add_distrib]
  refine Finset.sum_congr rfl fun i _ => ?_
  rw [BitVec.getLsbD_xor]
  cases a.getLsbD i <;> cases b.getLsbD i <;> simp [CharTwo.add_self_eq_zero]

/-- The bit that the shift drops is the coefficient of `x^8` in the product by `x`. -/
theorem bytePoly_shiftLeft_one (b : Byte) :
    bytePoly (b <<< 1) + (if b.getLsbD 7 then X ^ 8 else 0) = X * bytePoly b := by
  simp only [bytePoly, Finset.mul_sum, mul_ite, mul_zero, ← pow_succ']
  rw [Finset.sum_range_succ', Finset.sum_range_succ (n := 7)]
  congr 1
  simp only [BitVec.getLsbD_shiftLeft, zero_lt_one, decide_true, Bool.not_true, Bool.and_false, Bool.false_and,
    Bool.false_eq_true, if_false, add_zero]
  refine Finset.sum_congr rfl fun i hi => ?_
  have hlt : i + 1 < 8 := Nat.succ_lt_succ (Finset.mem_range.mp hi)
  simp [hlt]

/-- The reduction constant 0x1B is what the reduction polynomial leaves of `x^8`. -/
theorem bytePoly_reduction : bytePoly 0x1B#8 = reductionPoly - X ^ 8 := by
  simp [bytePoly, reductionPoly, Finset.sum_range_succ]
  ring

/-- R101: the doubled byte differs from the product by `x` by a multiple of the reduction polynomial. -/
theorem reductionPoly_dvd_double (b : Byte) : reductionPoly ∣ bytePoly (double b) - X * bytePoly b := by
  rw [← bytePoly_shiftLeft_one]
  unfold double
  cases b.getLsbD 7
  · simp
  · refine ⟨1, ?_⟩
    have htwo : (X ^ 8 : Polynomial (ZMod 2)) + X ^ 8 = 0 := CharTwo.add_self_eq_zero _
    simp [bytePoly_xor, bytePoly_reduction, sub_sub, htwo]

/-! ## Bytes in the quotient by the reduction polynomial -/

/-- The class of a byte's polynomial modulo the reduction polynomial, an element of GF(2^8). -/
noncomputable def byteClass (b : Byte) : AdjoinRoot reductionPoly := AdjoinRoot.mk reductionPoly (bytePoly b)

/-- The class of `x`. -/
noncomputable def xClass : AdjoinRoot reductionPoly := AdjoinRoot.root reductionPoly

theorem byteClass_xor (a b : Byte) : byteClass (a ^^^ b) = byteClass a + byteClass b := by
  rw [byteClass, bytePoly_xor, map_add]
  rfl

theorem byteClass_double (b : Byte) : byteClass (double b) = xClass * byteClass b := by
  have h := AdjoinRoot.mk_eq_mk.mpr (reductionPoly_dvd_double b)
  rwa [map_mul, AdjoinRoot.mk_X] at h

theorem byteClass_one : byteClass 0x01 = 1 := by
  simp [byteClass, bytePoly]

/-! ## The multiplier's functions as products -/

/-- The byte function `f` is linear over XOR and is the product by `p` in GF(2^8) (R104). -/
structure IsProduct (p : AdjoinRoot reductionPoly) (f : Byte → Byte) : Prop where
  map_xor : ∀ a b, f (a ^^^ b) = f a ^^^ f b
  product : ∀ b, byteClass (f b) = p * byteClass b

section
variable {p q : AdjoinRoot reductionPoly} {f g : Byte → Byte}

theorem isProduct_one : IsProduct 1 mul1 := ⟨fun _ _ => rfl, fun b => (one_mul (byteClass b)).symm⟩

theorem IsProduct.double (h : IsProduct p f) : IsProduct (xClass * p) fun b => double (f b) where
  map_xor a b := by rw [h.map_xor, double_xor]
  product b := by rw [byteClass_double, h.product, mul_assoc]

theorem IsProduct.xor (hf : IsProduct p f) (hg : IsProduct q g) : IsProduct (p + q) fun b => f b ^^^ g b where
  map_xor a b := by
    rw [hf.map_xor, hg.map_xor]
    ac_rfl
  product b := by rw [byteClass_xor, hf.product, hg.product, add_mul]

theorem IsProduct.map_zero (h : IsProduct p f) : f 0 = 0 := by
  simpa using h.map_xor 0 0

/-- A product is the one by the value at 1, as a congruence of polynomials (R101). -/
theorem IsProduct.reductionPoly_dvd (h : IsProduct p f) (b : Byte) :
    reductionPoly ∣ bytePoly (f b) - bytePoly (f 0x01) * bytePoly b := by
  have hp : byteClass (f 0x01) = p := by rw [h.product, byteClass_one, mul_one]
  rw [← AdjoinRoot.mk_eq_mk, map_mul]
  exact (h.product b).trans (by rw [← hp]; rfl)

end

/-- Each function of the multiplier is a sum of repeated doublings (R102), so it is the product by its value at 1, which
is its constant. -/
theorem exists_isProduct_of_mem_cset {c : Byte} (hc : c ∈ cset) :
    ∃ f p, (∀ b, mulc c b = some (f b)) ∧ IsProduct p f ∧ f 0x01 = c := by
  have h1 := isProduct_one
  have h2 := h1.double
  have h4 := h2.double
  have h8 := h4.double
  simp only [cset, List.mem_cons, List.not_mem_nil, or_false] at hc
  obtain rfl | rfl | rfl | rfl | rfl | rfl | rfl := hc
  · exact ⟨mul1, _, fun _ => rfl, h1, rfl⟩
  · exact ⟨mul2, _, fun _ => rfl, h2, rfl⟩
  · exact ⟨mul3, _, fun _ => rfl, h2.xor h1, rfl⟩
  · exact ⟨mul9, _, fun _ => rfl, h8.xor h1, rfl⟩
  · exact ⟨mul11, _, fun _ => rfl, (h8.xor h2).xor h1, rfl⟩
  · exact ⟨mul13, _, fun _ => rfl, (h8.xor h4).xor h1, rfl⟩
  · exact ⟨mul14, _, fun _ => rfl, (h8.xor h4).xor h2, rfl⟩

theorem mulc_eq_none {c : Byte} (hc : c ∉ cset) (b : Byte) : mulc c b = none := by
  unfold mulc
  split
  case h_8 => rfl
  all_goals
    rename_i h
    have hval : BitVec.ofNat 8 c.toNat = c := by simp
    rw [h] at hval
    exact absurd (hval ▸ by decide) hc

end Sys2Proof.Machine
end

section
open Sys2Proof Sys2Proof.Machine

/-- Settles O32: the shift is the product by `x` but for the coefficient of `x^8`, and 0x1B makes up for it. -/
theorem doubleIsMultiplicationByX : Obligations.DoubleIsMultiplicationByX := by
  unfold Obligations.DoubleIsMultiplicationByX
  exact reductionPoly_dvd_double

/-- Settles O33: each of the seven functions is linear because `double` is, and its class is the constant's times the
byte's. -/
theorem fixedMultipliersAreLinearProducts : Obligations.FixedMultipliersAreLinearProducts := by
  unfold Obligations.FixedMultipliersAreLinearProducts
  refine ⟨fun a b => (double_xor a b).symm, fun c hc => ?_, fun b => rfl⟩
  obtain ⟨f, p, hmulc, hf, rfl⟩ := exists_isProduct_of_mem_cset hc
  simp only [hmulc]
  exact ⟨congrArg some hf.map_zero,
    fun a b => ⟨f a, f b, rfl, rfl, congrArg some (hf.map_xor a b), hf.reductionPoly_dvd a⟩⟩

/-- Settles O34: the seven functions by definition, and no other constant has the value of one of CSET. -/
theorem multiplierSupportsSevenConstants : Obligations.MultiplierSupportsSevenConstants := by
  unfold Obligations.MultiplierSupportsSevenConstants
  exact ⟨fun b => ⟨rfl, rfl, rfl, rfl, rfl, rfl, rfl⟩, fun c b hc => mulc_eq_none hc b⟩
end

/-! The invariant (10_state.md sections 2, 4 and 5): it holds after reset, every host move and every controller move
keeps it, and a state that meets it always steps. -/

section
namespace Sys2Proof.Machine

/-! ## What keeps the invariant -/

/-- On an idle core the invariant says nothing of the command in progress. -/
theorem Inv.of_idle {s : State} (hb : s.busy = false) (hop : s.opcur.toNat ≤ 13) (hround : s.round.toNat ≤ 10)
    (hwidx : s.widx = 0 ∨ (4 ≤ s.widx.toNat ∧ s.widx.toNat ≤ 44)) (hw : s.keyValid = true → s.w = expandKey s.key)
    (hcause : s.errBusy = true ∨ s.errIllegal = true ∨ s.errNoKey = true → s.errCause ≠ 0)
    (hnone : s.errCause = 0 → s.errOffset = 0 ∧ s.errCmd = 0) : Inv s where
  opcur_le := hop
  round_le := hround
  widx_range := hwidx
  busy_position := by simp [hb]
  busy_expand := by simp [hb]
  busy_key := by simp [hb]
  busy_constant := by simp [hb]
  busy_words := by simp [hb]
  schedule_valid := hw
  error_cause := hcause
  no_rejection := hnone

theorem inv_resetCycle (s : State) : Inv (resetCycle s) := by
  apply Inv.of_idle <;> simp

section
variable {s : State}

theorem Inv.tick (h : Inv s) (rd : Word) : Inv (tick rd s) := { h with }

theorem Inv.clearErrors (h : Inv s) (v : Word) : Inv (clearErrors v s) :=
  { h with
    error_cause := fun hflag => h.error_cause <|
      hflag.imp (flag_of_flag_clearErrors (e := .errBusy))
        (.imp (flag_of_flag_clearErrors (e := .errIllegal)) (flag_of_flag_clearErrors (e := .errNoKey))) }

theorem Inv.raise (h : Inv s) (e : Rejection) (off : BitVec 10) (v : Word) : Inv (raise e off v s) :=
  have hcode : e.code ≠ 0 := by cases e <;> decide
  { h with
    error_cause := fun _ => hcode
    no_rejection := fun h0 => absurd h0 hcode }

/-- Acceptance of a command other than NOP and KEY_EXPAND puts the core at the command's position, which is a legal one
where the command's operand is and the key it needs is valid (45_controller.md R205). -/
theorem Inv.position (h : Inv s) {op r : BitVec 4} {c : Byte} (hop : 2 ≤ op.toNat ∧ op.toNat ≤ 13)
    (hr : r.toNat ≤ 10) (hk : op = 0x2#4 ∨ op = 0x3#4 ∨ op = 0xA#4 → s.keyValid = true)
    (hc : op = 0xD#4 → cset.contains c = true) : Inv (putMulc c (putRound r (accept op s))) :=
  have hexpand : op ≠ 0x1#4 := by rintro rfl; exact absurd hop (by decide)
  { h with
    opcur_le := hop.2
    round_le := hr
    busy_position := fun _ => ⟨rfl, by rintro rfl; exact absurd hop (by decide)⟩
    busy_expand := fun _ h1 => absurd h1 hexpand
    busy_key := fun _ => hk
    busy_constant := fun _ => hc
    busy_words := fun _ h1 => absurd h1 hexpand }

/-- Acceptance of KEY_EXPAND: the words below WIDX 4 are the key words (43_key_schedule.md R157). -/
theorem Inv.startExpansion (h : Inv s) : Inv (startExpansion (accept 0x1#4 s)) :=
  { h with
    opcur_le := by simp
    widx_range := .inr (by simp)
    busy_position := by simp
    busy_expand := by simp
    busy_key := by simp
    busy_constant := by simp
    busy_words := fun _ _ j hj hlt =>
      (getElem_loadKey s.key s.w ⟨j, hlt⟩).trans (getElem_expandKey_lt_four s.key ⟨j, hlt⟩).symm
    schedule_valid := by simp }

theorem Inv.acceptance {i : Instr} (h : Inv s) (hi : i.wellFormed = true)
    (hchk : commandCheck (encode i) s = none) : Inv (acceptance i s) := by
  obtain ⟨-, -, hk⟩ := commandCheck_eq_none.mp hchk
  rw [needsSchedule_encode] at hk
  cases i with
  | nop => exact h
  | keyExpand => exact h.startExpansion
  | encrypt => exact h.position (r := 0) (c := s.mulcC) (by decide) (by decide) (fun _ => hk (by simp)) nofun
  | decrypt => exact h.position (r := 10) (c := s.mulcC) (by decide) (by decide) (fun _ => hk (by simp)) nofun
  | addRoundKey rnd =>
    exact h.position (c := s.mulcC) (by decide) (of_decide_eq_true hi) (fun _ => hk (by simp)) nofun
  | gfMulc c => exact h.position (r := s.round) (by decide) h.round_le (by simp) (fun _ => hi)
  | _ => exact h.position (r := s.round) (c := s.mulcC) (by decide) h.round_le (by simp) nofun

/-- A key write makes the key invalid, so W need not be its expansion (R158). -/
theorem Inv.putKeyWord (h : Inv s) (hb : s.busy = false) (k : Fin 4) (v : Word) : Inv (putKeyWord k v s) :=
  .of_idle hb h.opcur_le h.round_le h.widx_range (by simp) h.error_cause h.no_rejection

theorem HostMove.inv {a : HostAccess} {t : State} (hm : HostMove a s t) (h : Inv s) : Inv t := by
  cases hm with
  | quiet => exact h
  | cleared off v => exact h.clearErrors v
  | rejected off v e o u => exact h.raise e o u
  | accepted off v i ha hr hd hchk => exact h.acceptance (wellFormed_of_decode hd) hchk
  | operand | stateWord => exact { h with }
  | keyWord off v k ha hr hb => exact h.putKeyWord hb k v

/-- One turn of the loop of R153 on the words of the expansion below `i` gives the expansion's word `i`, and keeps those
below it. -/
theorem getElem_expandWord_of_words_below {K : Quad} {w : Schedule} {i : ℕ} (hi : 4 ≤ i ∧ i < 44)
    (hw : ∀ j (h : j < 44), j < i → w[j] = (expandKey K)[j]) {j : ℕ} (hj : j < 44) (hlt : j < i + 1) :
    (expandWord w i hi)[j] = (expandKey K)[j] := by
  obtain hlt | rfl : j < i ∨ j = i := by omega
  · rw [getElem_expandWord_of_ne _ _ _ _ (by omega), hw j hj hlt]
  · rw [getElem_expandWord, getElem_expandKey K _ hi]
    exact nextWord_congr hi (hw _ _ (by omega)) (hw _ _ (by omega))

/-- The end of a command leaves an idle core, with KEY, W and KEY_VALID as they were. -/
theorem Inv.finish (h : Inv s) : Inv (finish s) :=
  .of_idle rfl h.opcur_le h.round_le h.widx_range h.schedule_valid h.error_cause h.no_rejection

theorem ControllerMove.inv {t : State} (hm : ControllerMove s t) (hb : s.busy = true) (h : Inv s) : Inv t := by
  cases hm with
  | scheduleWord hw hop hi =>
    have hnext : (BitVec.ofNat 6 (s.widx.toNat + 1)).toNat = s.widx.toNat + 1 := by simp; omega
    obtain ⟨-, -, hk⟩ := h.busy_expand hb hop
    exact { h with
      widx_range := .inr (by simp only [putScheduleWord_widx, hnext]; omega)
      busy_expand := fun _ _ => by simp only [putScheduleWord_widx, hnext]; exact ⟨by omega, by omega, hk⟩
      busy_words := fun _ _ j hj hlt =>
        getElem_expandWord_of_words_below hw (h.busy_words hb hop) hj
          (by simpa only [putScheduleWord_widx, hnext] using hlt)
      schedule_valid := by simp [hk] }
  | lastWord hw hop hi =>
    exact .of_idle rfl h.opcur_le h.round_le (.inr (by simp [hi]))
      (fun _ => Vector.ext fun j hj => getElem_expandWord_of_words_below hw (h.busy_words hb hop) hj (by omega))
      h.error_cause h.no_rejection
  | stage S r hr hr' hop => exact { h with round_le := hr' }
  | block S => exact Inv.finish (s := putState S s) { h with }
  | byte b => exact Inv.finish (s := putResult b s) { h with }

theorem HostMove.busy_of_busy {a : HostAccess} {t : State} (hm : HostMove a s t) (hb : s.busy = true) :
    t.busy = true :=
  (congrArg State.busy (hm.hostErased_of_busy hb) :).trans hb

theorem step_inv {t : State} (h : Inv s) (hstep : step s = .next t) : Inv t := by
  obtain ⟨-, rfl⟩ | ⟨-, u, hu, ⟨-, rfl⟩ | ⟨hb, hc⟩⟩ := step_move hstep
  · exact inv_resetCycle s
  · exact hu.inv (h.tick _)
  · exact hc.inv (hu.busy_of_busy hb) (hu.inv (h.tick _))

/-! ## A legal state always steps -/

/-- A stage of ENCRYPT at round `r`: the last one ends the command (45_controller.md R209). -/
theorem stepEncrypt_eq {r : Fin 11} (hr : s.round.toNat = r.val) : stepEncrypt s = .next (
    if r.val = 10 then finish (putState (encStage s.w r s.state) s)
    else putRound (s.round + 1) (putState (encStage s.w r s.state) s)) := by
  simp only [stepEncrypt, roundIndex_eq_some.mpr hr]
  split <;> rfl

/-- A stage of DECRYPT at round `r`: that of round 0 ends the command (R210). -/
theorem stepDecrypt_eq {r : Fin 11} (hr : s.round.toNat = r.val) : stepDecrypt s = .next (
    if r.val = 0 then finish (putState (decStage s.w r s.state) s)
    else putRound (s.round - 1) (putState (decStage s.w r s.state) s)) := by
  simp only [stepDecrypt, roundIndex_eq_some.mpr hr]
  split <;> rfl

theorem stepAddRoundKey_eq {r : Fin 11} (hr : s.round.toNat = r.val) :
    stepAddRoundKey s = .next (finish (putState (addRoundKey s.w r s.state) s)) := by
  simp only [stepAddRoundKey, roundIndex_eq_some.mpr hr]

theorem stepGfMulc_eq {b : Byte} (hb : mulc s.mulcC s.operand = some b) :
    stepGfMulc s = .next (finish (putResult b s)) := by
  simp only [stepGfMulc, hb]

/-- The multiplier has a product for every constant of CSET (40_gf_arith.md R103). -/
theorem exists_mulc {c : Byte} (hc : cset.contains c = true) (b : Byte) : ∃ x, mulc c b = some x := by
  obtain ⟨f, -, hmulc, -⟩ := exists_isProduct_of_mem_cset (List.contains_iff_mem.mp hc)
  exact ⟨f b, hmulc b⟩

/-- At a legal position the controller's step answers a next state (45_controller.md R206). -/
theorem exists_controllerStep (h : Inv s) (hb : s.busy = true) : ∃ t, controllerStep s = .next t := by
  have hround : s.round.toNat = (⟨s.round.toNat, by have := h.round_le; omega⟩ : Fin 11).val := rfl
  unfold controllerStep
  split
  case h_1 ho =>
    obtain ⟨h4, h43, -⟩ := h.busy_expand hb (BitVec.eq_of_toNat_eq ho)
    by_cases hl : s.widx.toNat = 43
    · exact ⟨_, stepKeyExpand_last ⟨h4, by omega⟩ hl⟩
    · exact ⟨_, stepKeyExpand_word ⟨h4, by omega⟩ hl⟩
  case h_2 => exact ⟨_, stepEncrypt_eq hround⟩
  case h_3 => exact ⟨_, stepDecrypt_eq hround⟩
  case h_10 => exact ⟨_, stepAddRoundKey_eq hround⟩
  case h_13 ho =>
    obtain ⟨x, hx⟩ := exists_mulc (h.busy_constant hb (BitVec.eq_of_toNat_eq ho)) s.operand
    exact ⟨_, stepGfMulc_eq hx⟩
  case h_14 =>
    have hle := h.opcur_le
    have hne : s.opcur.toNat ≠ 0 := fun h0 => (h.busy_position hb).2 (BitVec.eq_of_toNat_eq h0)
    interval_cases s.opcur.toNat <;> contradiction
  all_goals exact ⟨_, rfl⟩

theorem exists_step (h : Inv s) : ∃ t, step s = .next t := by
  cases hr : s.pins.rst with
  | true => exact ⟨_, step_reset hr⟩
  | false =>
    obtain ⟨u, hu, hm⟩ := hostAccess_move s.pins.access (tick (busReadData s.pins s) s)
    cases hb : s.busy with
    | false => exact ⟨u, (step_idle hr hb).trans hu⟩
    | true =>
      obtain ⟨t, ht⟩ := exists_controllerStep (hm.inv (h.tick _)) (hm.busy_of_busy hb)
      exact ⟨t, by rw [step_busy hr hb, hu, andThen_next, ht]⟩

end

end Sys2Proof.Machine
end

section
open Sys2Proof Sys2Proof.Machine

/-- Settles O20: the state after reset is idle, with no key valid and no rejection recorded. -/
theorem resetStateMeetsTheInvariant : Obligations.ResetStateMeetsTheInvariant := by
  unfold Obligations.ResetStateMeetsTheInvariant
  apply Inv.of_idle <;> simp [State.reset]

/-- Settles O21: a step is a reset, or a host move and, on a busy core, a controller move after it, and each of the
three keeps the invariant. -/
theorem everyStepKeepsTheInvariant : Obligations.EveryStepKeepsTheInvariant := by
  unfold Obligations.EveryStepKeepsTheInvariant
  exact fun s t h hstep => step_inv h hstep

/-- Settles O22: the host's move leaves a legal state, at which the controller's step is no fault. -/
theorem legalStateAlwaysSteps : Obligations.LegalStateAlwaysSteps := by
  unfold Obligations.LegalStateAlwaysSteps
  exact fun s h => exists_step h
end

/-! What a step changes (10_state.md section 5, 43_key_schedule.md section 2, 60_exceptions.md): BUSY and DONE,
KEY_VALID, the error record; and that a host write beside a controller step does not disturb it (20_memory.md R63). -/

section
namespace Sys2Proof.Machine

/-! ## The offsets of STATUS and KEY -/

theorem registerAt_eq_status {off : BitVec 10} (h : registerAt off = .status) : off = 1 := by
  unfold registerAt at h
  simp only at h
  split_ifs at h with _ h1
  exact BitVec.eq_of_toNat_eq (by simp; omega)

theorem registerAt_eq_key {off : BitVec 10} {k : Fin 4} (h : registerAt off = .key k) :
    off = BitVec.ofNat 10 (8 + k.val) := by
  unfold registerAt at h
  simp only at h
  split_ifs at h with _ _ _ _ _ hk
  cases h
  exact BitVec.eq_of_toNat_eq (by simp; omega)

/-! ## What acceptance leaves unchanged -/

theorem acceptance_keyValid {i : Instr} (hi : i ≠ .keyExpand) (s : State) :
    (acceptance i s).keyValid = s.keyValid := by
  cases i with
  | keyExpand => exact absurd rfl hi
  | _ => rfl

theorem acceptance_widx {i : Instr} (hi : i ≠ .keyExpand) (s : State) : (acceptance i s).widx = s.widx := by
  cases i with
  | keyExpand => exact absurd rfl hi
  | _ => rfl

theorem acceptance_round {i : Instr} (he : i ≠ .encrypt) (hd : i ≠ .decrypt) (ha : ∀ rnd, i ≠ .addRoundKey rnd)
    (s : State) : (acceptance i s).round = s.round := by
  cases i with
  | encrypt => exact absurd rfl he
  | decrypt => exact absurd rfl hd
  | addRoundKey rnd => exact absurd rfl (ha rnd)
  | _ => rfl

theorem acceptance_busy {i : Instr} (hi : i ≠ .nop) (s : State) :
    (acceptance i s).busy = true ∧ (acceptance i s).done = false := by
  cases i with
  | nop => exact absurd rfl hi
  | _ => exact ⟨rfl, rfl⟩

/-- Acceptance of a command writes W at the key words only (43_key_schedule.md R157). -/
theorem getElem_acceptance_w (i : Instr) (s : State) {j : ℕ} (h : j < 44) (hj : 4 ≤ j) :
    (acceptance i s).w[j] = s.w[j] := by
  cases i with
  | keyExpand => exact getElem_loadKey_of_le _ _ h hj
  | _ => rfl

/-- Acceptance does no data work: KEY, STATE and BYTE_IO stay, and it is no cycle of its own (45_controller.md R205). -/
theorem acceptance_data (i : Instr) (s : State) :
    (acceptance i s).key = s.key ∧ (acceptance i s).state = s.state ∧ (acceptance i s).operand = s.operand ∧
      (acceptance i s).result = s.result ∧ (acceptance i s).port = s.port ∧ (acceptance i s).rdata = s.rdata ∧
      (acceptance i s).draws = s.draws := by
  cases i <;> exact ⟨rfl, rfl, rfl, rfl, rfl, rfl, rfl⟩

/-! ## The bus -/

theorem HostMove.bus {a : HostAccess} {s t : State} (h : HostMove a s t) : t.port = s.port ∧ t.rdata = s.rdata := by
  cases h with
  | accepted off v i =>
    obtain ⟨-, -, -, -, hport, hrdata, -⟩ := acceptance_data i s
    exact ⟨hport, hrdata⟩
  | _ => exact ⟨rfl, rfl⟩

theorem ControllerMove.bus {s t : State} (h : ControllerMove s t) : t.port = s.port ∧ t.rdata = s.rdata := by
  cases h <;> exact ⟨rfl, rfl⟩

/-- A step outside reset uses up the pins of its cycle and puts the cycle's read value on the bus (R53, R62). -/
theorem step_bus {s t : State} (hr : s.pins.rst = false) (h : step s = .next t) :
    t.port = s.port.tail ∧ t.rdata = busReadData s.pins s := by
  obtain ⟨hrst, -⟩ | ⟨-, u, hu, ⟨-, rfl⟩ | ⟨-, hc⟩⟩ := step_move h
  · simp [hr] at hrst
  · exact hu.bus
  · exact ⟨hc.bus.1.trans hu.bus.1, hc.bus.2.trans hu.bus.2⟩

theorem step_port {s t : State} (h : step s = .next t) : t.port = s.port.tail := by
  cases hr : s.pins.rst with
  | true =>
    cases (step_reset hr).symm.trans h
    rfl
  | false => exact (step_bus hr h).1

theorem run_port (n : ℕ) {s t : State} (h : Host.Core.run core n s = .next t) : t.port = s.port.drop n := by
  induction n generalizing s with
  | zero =>
    cases h
    rfl
  | succ n ih =>
    obtain ⟨u, hstep, hrun⟩ := run_succ_eq_next.mp h
    rw [ih hrun, step_port hstep, List.drop_tail]

/-! ## BUSY and DONE -/

section
variable {a : HostAccess} {s t : State}

/-- A host access changes BUSY or DONE only where it is the accepted CMD write of a command other than NOP. -/
theorem HostMove.busy_done (h : HostMove a s t) : (t.busy = s.busy ∧ t.done = s.done) ∨
    (s.busy = false ∧ t.busy = true ∧ t.done = false ∧ ∃ v i, a = .write 0 v ∧ decode v = .ok i ∧ i ≠ .nop) := by
  cases h with
  | accepted off v i ha hr hd hchk =>
    by_cases hi : i = .nop
    · subst hi
      exact .inl ⟨rfl, rfl⟩
    · obtain ⟨hb, hdone⟩ := acceptance_busy hi s
      obtain rfl := registerAt_eq_cmd.mp hr
      exact .inr ⟨(commandCheck_eq_none.mp hchk).1, hb, hdone, v, i, ha, hd, hi⟩
  | _ => exact .inl ⟨rfl, rfl⟩

/-- A controller step changes BUSY and DONE only together, at the end of the command (45_controller.md R207). -/
theorem ControllerMove.busy_done (h : ControllerMove s t) :
    (t.busy = s.busy ∧ t.done = s.done) ∨ (t.busy = false ∧ t.done = true) := by
  cases h with
  | scheduleWord | stage => exact .inl ⟨rfl, rfl⟩
  | lastWord | block | byte => exact .inr ⟨rfl, rfl⟩

/-- BUSY and DONE after a step outside reset: unchanged, a command accepted, or the command in progress finished. -/
theorem step_busy_done (hr : s.pins.rst = false) (h : step s = .next t) : (t.busy = s.busy ∧ t.done = s.done) ∨
    (s.busy = false ∧ t.busy = true ∧ t.done = false ∧ ∃ i, CommandOnBus i s ∧ i ≠ .nop) ∨
    (s.busy = true ∧ t.busy = false ∧ t.done = true) := by
  obtain ⟨hrst, -⟩ | ⟨-, u, hu, ⟨hb, rfl⟩ | ⟨hb, hc⟩⟩ := step_move h
  · simp [hr] at hrst
  · obtain hsame | ⟨-, hbt, hdt, v, i, ha, hd, hi⟩ := hu.busy_done
    · exact .inl hsame
    · exact .inr (.inl ⟨hb, hbt, hdt, i, ⟨hr, v, ha, hd⟩, hi⟩)
  · have he := hu.hostErased_of_busy hb
    have hub : u.busy = s.busy := (congrArg State.busy he :)
    have hud : u.done = s.done := (congrArg State.done he :)
    have hct := hc.busy_done
    rw [hub, hud] at hct
    exact hct.imp_right fun ⟨hbt, hdt⟩ => .inr ⟨hb, hbt, hdt⟩

/-! ## KEY_VALID -/

/-- A host access changes KEY_VALID only by the acceptance of KEY_EXPAND or a key write on an idle core (R158). -/
theorem HostMove.keyValid (h : HostMove a s t) : t.keyValid = s.keyValid ∨
    (s.busy = false ∧ ((∃ v, a = .write 0 v ∧ decode v = .ok .keyExpand) ∨
      ∃ (k : Fin 4) (v : Word), a = .write (BitVec.ofNat 10 (8 + k.val)) v)) := by
  cases h with
  | accepted off v i ha hr hd hchk =>
    by_cases hi : i = .keyExpand
    · obtain rfl := hi
      obtain rfl := registerAt_eq_cmd.mp hr
      exact .inr ⟨(commandCheck_eq_none.mp hchk).1, .inl ⟨v, ha, hd⟩⟩
    · exact .inl (acceptance_keyValid hi s)
  | keyWord off v k ha hr hb =>
    obtain rfl := registerAt_eq_key hr
    exact .inr ⟨hb, .inr ⟨k, v, ha⟩⟩
  | _ => exact .inl rfl

/-- A controller step changes KEY_VALID only as the last step of KEY_EXPAND, which sets it (R157, R158). -/
theorem ControllerMove.keyValid (h : ControllerMove s t) :
    t.keyValid = s.keyValid ∨ (s.opcur = 0x1#4 ∧ s.widx = 43) := by
  cases h with
  | lastWord hw hop hi => exact .inr ⟨hop, BitVec.eq_of_toNat_eq hi⟩
  | _ => exact .inl rfl

theorem step_keyValid (h : step s = .next t) : t.keyValid = s.keyValid ∨
    s.pins.rst = true ∨ (s.busy = false ∧ CommandOnBus .keyExpand s) ∨
      (s.busy = true ∧ s.opcur = 0x1#4 ∧ s.widx = 43) ∨
      (s.busy = false ∧ ∃ (k : Fin 4) (v : Word), s.pins.access = .write (BitVec.ofNat 10 (8 + k.val)) v) := by
  obtain ⟨hr, -⟩ | ⟨hr, u, hu, ⟨hb, rfl⟩ | ⟨hb, hc⟩⟩ := step_move h
  · exact .inr (.inl hr)
  · obtain hsame | ⟨-, ⟨v, ha, hd⟩ | hkey⟩ := hu.keyValid
    · exact .inl hsame
    · exact .inr (.inr (.inl ⟨hb, hr, v, ha, hd⟩))
    · exact .inr (.inr (.inr (.inr ⟨hb, hkey⟩)))
  · have he := hu.hostErased_of_busy hb
    have huk : u.keyValid = s.keyValid := (congrArg State.keyValid he :)
    have huo : u.opcur = s.opcur := (congrArg State.opcur he :)
    have huw : u.widx = s.widx := (congrArg State.widx he :)
    have hct := hc.keyValid
    rw [huk, huo, huw] at hct
    exact hct.imp_right fun hlast => .inr (.inr (.inl ⟨hb, hlast⟩))

/-- An idle core accepts KEY_EXPAND, whether or not its key is valid (R157). -/
theorem exec_keyExpand (hb : s.busy = false) : exec .keyExpand s = .next (startExpansion (accept 0x1#4 s)) :=
  exec_accept (commandCheck_pass hb (illegalClass_encode rfl) fun h => absurd h (by decide))

/-- The last step of KEY_EXPAND sets KEY_VALID (R157). -/
theorem keyValid_of_last_word (hop : s.opcur = 0x1#4) (hw : s.widx = 43) (h : controllerStep s = .next t) :
    t.keyValid = true := by
  rw [controllerStep_keyExpand hop, stepKeyExpand_last (by simp [hw]) (by simp [hw])] at h
  cases h
  rfl

/-! ## The error record -/

/-- The three error bits, ERRINFO and ERRCMD (10_state.md R25 to R27). -/
def errorRecord (s : State) : Bool × Bool × Bool × BitVec 2 × BitVec 10 × Word :=
  (s.errBusy, s.errIllegal, s.errNoKey, s.errCause, s.errOffset, s.errCmd)

theorem errorRecord_eq_iff : errorRecord t = errorRecord s ↔
    t.errBusy = s.errBusy ∧ t.errIllegal = s.errIllegal ∧ t.errNoKey = s.errNoKey ∧ t.errCause = s.errCause ∧
      t.errOffset = s.errOffset ∧ t.errCmd = s.errCmd := by
  simp [errorRecord]

theorem flag_eq_of_errorRecord (h : errorRecord t = errorRecord s) (e : Rejection) : e.flag t = e.flag s := by
  obtain ⟨hb, hi, hk, -⟩ := errorRecord_eq_iff.mp h
  cases e
  case errBusy => exact hb
  case errIllegal => exact hi
  case errNoKey => exact hk

/-- The controller writes nothing of the error record (20_memory.md R63). -/
theorem ControllerMove.errorRecord (h : ControllerMove s t) : errorRecord t = errorRecord s := by
  cases h <;> rfl

/-- The error record after a step outside reset is the one the host's access leaves. -/
theorem step_errorRecord (hr : s.pins.rst = false) (h : step s = .next t) :
    ∃ u, hostAccess s.pins.access (tick (busReadData s.pins s) s) = .next u ∧ errorRecord t = errorRecord u := by
  obtain ⟨u, hu, -⟩ := hostAccess_move s.pins.access (tick (busReadData s.pins s) s)
  refine ⟨u, hu, ?_⟩
  cases hb : s.busy with
  | false =>
    rw [step_idle hr hb, hu] at h
    cases h
    rfl
  | true =>
    rw [step_busy hr hb, hu, andThen_next] at h
    exact (controllerStep_move h).errorRecord

/-- Without a host write a step leaves the error record. -/
theorem step_errorRecord_of_no_write (hr : s.pins.rst = false) (ha : ∀ off v, s.pins.access ≠ .write off v)
    (h : step s = .next t) : errorRecord t = errorRecord s := by
  obtain ⟨u, hu, he⟩ := step_errorRecord hr h
  cases hacc : s.pins.access with
  | write off v => exact absurd hacc (ha off v)
  | _ =>
    rw [hacc] at hu
    cases hu
    exact he

theorem run_errorRecord_of_no_write (n : ℕ) (s t : State)
    (hq : ∀ p ∈ s.port.take n, p.rst = false ∧ ∀ off v, p.access ≠ .write off v)
    (h : Host.Core.run core n s = .next t) : errorRecord t = errorRecord s := by
  induction n generalizing s with
  | zero =>
    cases h
    rfl
  | succ n ih =>
    obtain ⟨⟨hr, ha⟩, htail⟩ := pins_and_tail_of_take ⟨rfl, nofun⟩ hq
    obtain ⟨u, hstep, hrun⟩ := run_succ_eq_next.mp h
    rw [ih u (step_port hstep ▸ htail) hrun, step_errorRecord_of_no_write hr ha hstep]

/-- An error bit that a step outside reset newly sets is that of the check that the cycle's write fails, and the write
is recorded (60_exceptions.md R230). -/
theorem step_flag_rises {e : Rejection} (hr : s.pins.rst = false) (h : step s = .next t) (hs : e.flag s = false)
    (ht : e.flag t = true) : ∃ off v, s.pins.access = .write off v ∧ writeCheck off v s = some e ∧
      t.errCause = e.code ∧ t.errOffset = off ∧ t.errCmd = v := by
  obtain ⟨u, hu, he⟩ := step_errorRecord hr h
  rw [flag_eq_of_errorRecord he] at ht
  cases hacc : s.pins.access with
  | write off v =>
    rw [hacc] at hu
    have hchk : writeCheck off v s = some e := writeCheck_of_flag (s := tick _ s) hu hs ht
    cases (memWrite_reject (s := tick _ s) hchk).symm.trans hu
    obtain ⟨-, -, -, hrecord⟩ := errorRecord_eq_iff.mp he
    exact ⟨off, v, rfl, hchk, hrecord⟩
  | _ =>
    rw [hacc] at hu
    cases hu
    exact absurd ht (by rw [show e.flag (tick _ s) = e.flag s by cases e <;> rfl, hs]; decide)

/-- The bit of STATUS that clears the error bit of a rejection (60_exceptions.md R235). -/
def Rejection.statusBit (e : Rejection) : ℕ :=
  match e with
  | .errBusy => 4
  | .errIllegal => 5
  | .errNoKey => 6

theorem flag_clearErrors (e : Rejection) (v : Word) (s : State) :
    e.flag (clearErrors v s) = (e.flag s && !v.getLsbD e.statusBit) := by
  cases e <;> rfl

/-- A host access clears an error bit only as a STATUS write with that bit set (R235). -/
theorem HostMove.flag_falls {e : Rejection} (h : HostMove a s t) (hs : e.flag s = true) (ht : e.flag t = false) :
    ∃ v, a = .write 1 v ∧ v.getLsbD e.statusBit = true := by
  cases h with
  | cleared off v ha hr =>
    obtain rfl := registerAt_eq_status hr
    exact ⟨v, ha, by simpa [flag_clearErrors, hs] using ht⟩
  | quiet => simp [hs] at ht
  | rejected => simp [flag_raise, hs] at ht
  | accepted => simp [flag_acceptance, hs] at ht
  | operand => simp [flag_putOperand, hs] at ht
  | keyWord => simp [flag_putKeyWord, hs] at ht
  | stateWord => simp [flag_putStateWord, hs] at ht

theorem step_flag_falls {e : Rejection} (hr : s.pins.rst = false) (h : step s = .next t) (hs : e.flag s = true)
    (ht : e.flag t = false) : ∃ v, s.pins.access = .write 1 v ∧ v.getLsbD e.statusBit = true := by
  obtain ⟨u, hu, hm⟩ := hostAccess_move s.pins.access (tick (busReadData s.pins s) s)
  obtain ⟨u', hu', he⟩ := step_errorRecord hr h
  cases hu.symm.trans hu'
  have htick : e.flag (tick (busReadData s.pins s) s) = e.flag s := by cases e <;> rfl
  exact hm.flag_falls (htick.trans hs) ((flag_eq_of_errorRecord he e).symm.trans ht)

end

/-! ## A host write beside a controller step (20_memory.md R63) -/

section
variable {s t u : State}

/-- States with the same erasure differ in the part the controller neither reads nor writes. -/
theorem withHostPart_of_hostErased (h : hostErased t = hostErased s) : withHostPart t s = t := by
  calc withHostPart t s = withHostPart t (hostErased s) := rfl
    _ = withHostPart t (hostErased t) := by rw [h]
    _ = t := rfl

/-- A controller move keeps the erasure's KEY and count of draws, so taking the rest from a state with the same erasure
changes nothing that `hostErased` keeps. -/
theorem ControllerMove.hostErased_withHostPart (hm : ControllerMove s u) (h : hostErased t = hostErased s) :
    hostErased (withHostPart t u) = hostErased u := by
  calc hostErased (withHostPart t u) = hostErased (withHostPart (hostErased t) u) := rfl
    _ = hostErased (withHostPart (hostErased s) u) := by rw [h]
    _ = hostErased (withHostPart s u) := rfl
    _ = hostErased u := by rw [hm.withHostPart_eq]

/-- The controller's step from a state with the same erasure: the same move, beside the other state's host part. -/
theorem controllerStep_of_hostErased (h : hostErased t = hostErased s) (hs : controllerStep s = .next u) :
    controllerStep t = .next (withHostPart t u) := by
  rw [← withHostPart_of_hostErased h, controllerStep_withHostPart, hs]
  rfl

/-- A controller move writes neither the error record nor KEY, OPERAND, OPCUR and MULC_C. -/
theorem ControllerMove.frame (h : ControllerMove s u) :
    u.key = s.key ∧ u.operand = s.operand ∧ u.opcur = s.opcur ∧ u.mulcC = s.mulcC ∧ u.errBusy = s.errBusy ∧
      u.errIllegal = s.errIllegal ∧ u.errNoKey = s.errNoKey ∧ u.errCause = s.errCause ∧
      u.errOffset = s.errOffset ∧ u.errCmd = s.errCmd := by
  cases h <;> exact ⟨rfl, rfl, rfl, rfl, rfl, rfl, rfl, rfl, rfl, rfl⟩

/-- Two continuations that agree on the controller's moves agree after the controller's step. -/
theorem andThen_controllerStep_congr {f g : State → Host.Outcome State Fault Refusal}
    (h : ∀ u, ControllerMove s u → f u = g u) : andThen (controllerStep s) f = andThen (controllerStep s) g := by
  cases hs : controllerStep s with
  | next u => exact h u (controllerStep_move hs)
  | fault r => rfl
  | refused r => rfl

/-- The controller's step does not read KEY (20_memory.md R63). -/
theorem controllerStep_key (K : Quad) (s : State) :
    controllerStep { s with key := K } = andThen (controllerStep s) fun u => .next { u with key := K } := by
  rw [show ({ s with key := K } : State) = withHostPart { s with key := K } s from rfl, controllerStep_withHostPart]
  refine andThen_controllerStep_congr fun u hu => ?_
  cases hu <;> rfl

/-- The state `u` with the error record of `t`. -/
def withErrorRecord (t u : State) : State :=
  { u with
    errBusy := t.errBusy
    errIllegal := t.errIllegal
    errNoKey := t.errNoKey
    errCause := t.errCause
    errOffset := t.errOffset
    errCmd := t.errCmd }

/-- The controller's step after a host access that changed the error record alone is its step before it, with that
record (R63). -/
theorem controllerStep_withErrorRecord (t s : State) :
    controllerStep (withErrorRecord t s) = andThen (controllerStep s) fun u => .next (withErrorRecord t u) := by
  rw [show withErrorRecord t s = withHostPart (withErrorRecord t s) s from rfl, controllerStep_withHostPart]
  refine andThen_controllerStep_congr fun u hu => ?_
  cases hu <;> rfl

/-- A host access to a busy core changes the error record alone (R63). -/
theorem HostMove.eq_withErrorRecord {a : HostAccess} (h : HostMove a s t) (hb : s.busy = true) :
    t = withErrorRecord t s := by
  obtain ⟨hport, hrdata⟩ := h.bus
  calc t = withErrorRecord t { hostErased t with port := t.port, rdata := t.rdata } := rfl
    _ = withErrorRecord t { hostErased s with port := s.port, rdata := s.rdata } := by
      rw [h.hostErased_of_busy hb, hport, hrdata]
    _ = withErrorRecord t s := rfl

end

end Sys2Proof.Machine
end

section
open Sys2Proof Sys2Proof.Machine

/-- Settles O24: the two clearing writes and the last step of KEY_EXPAND run as such, inversion of the step leaves no
other writer, and the refusals are those of `commandWithoutKeyIsRejected`. -/
theorem keyValidFollowsItsFourWriters : Obligations.KeyValidFollowsItsFourWriters := by
  unfold Obligations.KeyValidFollowsItsFourWriters
  refine ⟨fun s t h => ⟨fun hr => ?reset, fun hb hbus => ?expand, fun hr hb hop hw => ?last, fun k v hr hb ha => ?key,
    fun hne => (step_keyValid h).resolve_left hne⟩, commandWithoutKeyIsRejected.1⟩
  case reset =>
    cases (step_reset hr).symm.trans h
    rfl
  case expand =>
    rw [step_command hb hbus, exec_keyExpand (s := tick 0 s) hb] at h
    cases h
    rfl
  case last =>
    obtain ⟨u, hu, hm⟩ := hostAccess_move s.pins.access (tick (busReadData s.pins s) s)
    rw [step_busy hr hb, hu, andThen_next] at h
    have he := hm.hostErased_of_busy hb
    exact keyValid_of_last_word (s := u) ((congrArg State.opcur he :).trans hop) ((congrArg State.widx he :).trans hw) h
  case key =>
    rw [step_idle_write hr hb ha, memWrite_key v _ (registerAt_key k), if_neg (by simp [hb])] at h
    cases h
    rfl

/-- Settles O25: BUSY and DONE by the three cases of a step, each error bit by the write that sets or clears it. -/
theorem statusFlagsChangeOnlyByTheirRules : Obligations.StatusFlagsChangeOnlyByTheirRules := by
  unfold Obligations.StatusFlagsChangeOnlyByTheirRules
  intro s t hr h
  -- The first four clauses each exclude two of these three cases.
  have hprogress := step_busy_done hr h
  refine ⟨fun hs ht => ?accepted, fun hs ht => ?finished, fun hs ht => ?doneSet, fun hs ht => ?doneCleared,
    fun hs ht => ?errBusy, fun hs ht => ?errIllegal, fun hs ht => ?errNoKey,
    fun hs ht => step_flag_falls (e := .errBusy) hr h hs ht, fun hs ht => step_flag_falls (e := .errIllegal) hr h hs ht,
    fun hs ht => step_flag_falls (e := .errNoKey) hr h hs ht⟩
  case accepted => simp_all
  case finished => simp_all
  case doneSet => simp_all
  case doneCleared => simp_all
  case errBusy =>
    obtain ⟨off, v, ha, hchk, hrecord⟩ := step_flag_rises (e := .errBusy) hr h hs ht
    exact ⟨(writeCheck_eq_errBusy.mp hchk).1, off, v, ha, hrecord⟩
  case errIllegal =>
    obtain ⟨off, v, ha, hchk, hcause, -, hcmd⟩ := step_flag_rises (e := .errIllegal) hr h hs ht
    obtain rfl := eq_zero_of_writeCheck hchk (by decide)
    obtain ⟨hb, hv⟩ := commandCheck_eq_errIllegal.mp (writeCheck_zero v s ▸ hchk)
    exact ⟨hb, v, ha, illegalByClass_iff.mpr hv, hcause, hcmd⟩
  case errNoKey =>
    obtain ⟨off, v, ha, hchk, hcause, -, hcmd⟩ := step_flag_rises (e := .errNoKey) hr h hs ht
    obtain rfl := eq_zero_of_writeCheck hchk (by decide)
    obtain ⟨hb, -, -, hk⟩ := commandCheck_eq_errNoKey.mp (writeCheck_zero v s ▸ hchk)
    exact ⟨hb, hk, v, ha, hcause, hcmd⟩

/-- Settles O26: the write changes the error record alone, which the controller neither reads nor writes, and KEY is not
read either. -/
theorem hostWriteAndControllerStepAreDisjoint : Obligations.HostWriteAndControllerStepAreDisjoint := by
  unfold Obligations.HostWriteAndControllerStepAreDisjoint
  intro s off v hb
  refine ⟨?_, fun u hu => (controllerStep_move hu).frame, fun K => controllerStep_key K s⟩
  obtain ⟨t, ht, hm⟩ := hostAccess_move (.write off v) s
  have hrecord := hm.eq_withErrorRecord hb
  refine ⟨t, ht, hm.hostErased_of_busy hb, (congrArg State.port hrecord :), (congrArg State.rdata hrecord :), ?_⟩
  exact (congrArg controllerStep hrecord).trans (controllerStep_withErrorRecord t s)

/-- Settles O28: a rejection writes the error record alone, and acceptance no more than the command's own part. -/
theorem everyCommandWriteIsAnsweredWithoutDataWork : Obligations.EveryCommandWriteIsAnsweredWithoutDataWork := by
  unfold Obligations.EveryCommandWriteIsAnsweredWithoutDataWork
  intro i s
  cases hchk : commandCheck (encode i) s with
  | some e =>
    refine ⟨_, exec_reject hchk, ?_⟩
    simp
  | none =>
    obtain ⟨hkey, hstate, hoperand, hresult, hport, hrdata, hdraws⟩ := acceptance_data i s
    exact ⟨_, exec_accept hchk, hkey, hstate, hoperand, hresult, fun he hd ha => acceptance_round he hd ha s,
      fun hc => acceptance_mulcC hc s, fun hi => ⟨acceptance_w hi s, acceptance_widx hi s, acceptance_keyValid hi s⟩,
      fun j h hj => getElem_acceptance_w i s h hj, hport, hrdata, hdraws⟩

/-- Settles O30: the rejection changes the error record alone, so the controller's step is that of the idle bus beside
it. -/
theorem rejectedWriteDoesNotDisturbTheStep : Obligations.RejectedWriteDoesNotDisturbTheStep := by
  unfold Obligations.RejectedWriteDoesNotDisturbTheStep
  intro s off v rest hinv hb hoff hp
  obtain ⟨hr, ha⟩ := pins_of_port_write hp
  have hwrite : step s = controllerStep (busyRejected off v (tick 0 s)) :=
    step_busy_rejected hr hb ha (guarded_registerAt.mpr hoff)
  have hidle : step { s with port := idleCycle :: rest } = controllerStep (tick 0 s) := by
    rw [step_no_access rfl rfl, if_pos hb, tick_eq_of_port hp]
    rfl
  obtain ⟨u, hu⟩ := exists_controllerStep (hinv.tick 0) hb
  refine ⟨withErrorRecord (busyRejected off v (tick 0 s)) u, u, ?_, hidle.trans hu, rfl, rfl, rfl, rfl, rfl, rfl, rfl⟩
  rw [hwrite, show busyRejected off v (tick 0 s) = withErrorRecord (busyRejected off v (tick 0 s)) (tick 0 s) from rfl,
    controllerStep_withErrorRecord, hu]
  rfl

/-- Settles O57, by induction on the number of cycles: without a write the host's access changes nothing, and the
controller writes nothing of the error record. -/
theorem errorsStayWithoutAWrite : Obligations.ErrorsStayWithoutAWrite := by
  unfold Obligations.ErrorsStayWithoutAWrite
  exact fun n s t hq h => errorRecord_eq_iff.mp (run_errorRecord_of_no_write n s t hq h)
end

/-! The block codec (42_state_codec.md), the state operations byte by byte and word by word (44_round_transforms.md) and
the inverse of the block encryption (45_controller.md section 1). -/

section
namespace Sys2Proof.Machine

/-! ## Words by their bytes -/

theorem word_eq_of_byteOf {t u : Word} (h : ∀ j, byteOf t j = byteOf u j) : t = u := by
  rw [← pack_byteOf t, ← pack_byteOf u]
  simp only [h]

/-- A packed word is its bytes from the most significant one down (R142). -/
theorem pack_eq_append (b0 b1 b2 b3 : Byte) : pack b0 b1 b2 b3 = b0 ++ b1 ++ b2 ++ b3 := by
  apply BitVec.eq_of_getLsbD_eq
  intro i hi
  iterate 3 rw [BitVec.getLsbD_append]
  interval_cases i <;> simp [pack]

theorem get_ofMatrix (m : Fin 4 → Fin 4 → Byte) (c : Fin 4) : (ofMatrix m).get c = packColumn m c := by
  fin_cases c <;> rfl

/-! ## The block codec (R140, R141) -/

theorem sByte_blockToState (b : Block) (r c : Fin 4) : sByte (blockToState b) r c = b[4 * c.val + r.val] :=
  sByte_ofMatrix ..

theorem getElem_stateToBlock (S : Quad) {i : ℕ} (h : i < 16) :
    (stateToBlock S)[i] = sByte S ⟨i % 4, by omega⟩ ⟨i / 4, by omega⟩ :=
  Vector.getElem_ofFn ..

theorem sByte_blockToState_div_mod (b : Block) {i : ℕ} (h : i < 16) :
    sByte (blockToState b) ⟨i % 4, by omega⟩ ⟨i / 4, by omega⟩ = b[i] := by
  rw [sByte_blockToState]
  simp only [Nat.div_add_mod]

@[simp] theorem stateToBlock_blockToState (b : Block) : stateToBlock (blockToState b) = b :=
  Vector.ext fun i h => by rw [getElem_stateToBlock _ h, sByte_blockToState_div_mod b h]

@[simp] theorem blockToState_stateToBlock (S : Quad) : blockToState (stateToBlock S) = S := by
  refine quad_eq_of_sByte fun r c => ?_
  rw [sByte_blockToState, getElem_stateToBlock]
  congr 1 <;> rw [Fin.ext_iff] <;> simp only <;> omega

/-- A state word holds its column's bytes, row 0 first (R143). -/
theorem get_blockToState (b : Block) (c : Fin 4) :
    (blockToState b).get c = b[4 * c.val] ++ b[4 * c.val + 1] ++ b[4 * c.val + 2] ++ b[4 * c.val + 3] := by
  rw [blockToState, get_ofMatrix, packColumn, pack_eq_append]
  rfl

/-- A key word holds its four bytes in order (R144). -/
theorem get_keyRegisters (key : Block) (k : Fin 4) :
    (keyRegisters key).get k = key[4 * k.val] ++ key[4 * k.val + 1] ++ key[4 * k.val + 2] ++ key[4 * k.val + 3] := by
  fin_cases k <;> exact pack_eq_append ..

/-! ## Operations on bytes and rotations of positions (R153, R170, R177) -/

section
variable (S : Quad)

theorem subBytes_shiftRows : subBytes (shiftRows S) = shiftRows (subBytes S) :=
  quad_eq_of_sByte fun r c => by simp

theorem invSubBytes_invShiftRows : invSubBytes (invShiftRows S) = invShiftRows (invSubBytes S) :=
  quad_eq_of_sByte fun r c => by simp

theorem subWord_rotWord (t : Word) : subWord (rotWord t) = rotWord (subWord t) :=
  word_eq_of_byteOf fun j => by simp only [byteOf_subWord, byteOf_rotWord]

theorem get_addRoundKey (w : Schedule) (k : Fin 11) (c : Fin 4) :
    (addRoundKey w k S).get c = S.get c ^^^ w[4 * k.val + c.val] :=
  word_eq_of_byteOf fun r => (sByte_addRoundKey S r c w k).trans (byteOf_xor _ _ r).symm

theorem shiftRows_four_times : shiftRows (shiftRows (shiftRows (shiftRows S))) = S := by
  have hturn (c r : Fin 4) : c + r + r + r + r = c := by
    revert c r
    decide
  exact quad_eq_of_sByte fun r c => by simp [hturn]

end

/-! ## Columns of four equal bytes: the coefficients of each row of a column matrix sum to 1 -/

theorem mixColumn_same (a : Byte) (r : Fin 4) : mixColumn a a a a r = a := by
  rw [← BitVec.xor_eq_zero_iff]
  match r with
  | 0 | 1 | 2 | 3 =>
    simp only [mixColumn, mul2, mul3]
    ac_nf
    simp

theorem invMixColumn_same (a : Byte) (r : Fin 4) : invMixColumn a a a a r = a := by
  rw [← BitVec.xor_eq_zero_iff]
  match r with
  | 0 | 1 | 2 | 3 =>
    simp only [invMixColumn, mul9, mul11, mul13, mul14]
    ac_nf
    simp

section
variable {S : Quad} {c : Fin 4}

theorem get_mixColumns_of_same (h : ∀ r, sByte S r c = sByte S 0 c) : (mixColumns S).get c = S.get c :=
  word_eq_of_byteOf fun r => by
    rw [show byteOf ((mixColumns S).get c) r = sByte (mixColumns S) r c from rfl, sByte_mixColumns, h 1, h 2, h 3,
      mixColumn_same]
    exact (h r).symm

theorem get_invMixColumns_of_same (h : ∀ r, sByte S r c = sByte S 0 c) : (invMixColumns S).get c = S.get c :=
  word_eq_of_byteOf fun r => by
    rw [show byteOf ((invMixColumns S).get c) r = sByte (invMixColumns S) r c from rfl, sByte_invMixColumns, h 1, h 2,
      h 3, invMixColumn_same]
    exact (h r).symm

end

/-! ## Decryption undoes encryption (R203)

A stage of DECRYPT is not the inverse of the stage of ENCRYPT with its index: it first undoes the SubBytes and ShiftRows
of the stage after it. So the states that the two runs share lie between ShiftRows and the rest of a stage. -/

section
variable (w : Schedule) (S : Quad)

theorem invSubBytes_invShiftRows_shiftRows_subBytes : invSubBytes (invShiftRows (shiftRows (subBytes S))) = S := by
  rw [invShiftRows_shiftRows, invSubBytes_subBytes]

/-- The first stage of DECRYPT undoes the last AddRoundKey of ENCRYPT. -/
theorem decStage_ten_encStage : decStage w 10 (encStage w 10 S) = shiftRows (subBytes S) := by
  rw [decStage_ten, encStage_ten, addRoundKey_addRoundKey]

/-- A middle stage of DECRYPT goes from SubBytes and ShiftRows of one stage's result back to those of its argument. -/
theorem decStage_middle_encStage {r : Fin 11} (h : 1 ≤ r.val ∧ r.val ≤ 9) :
    decStage w r (shiftRows (subBytes (encStage w r S))) = shiftRows (subBytes S) := by
  rw [decStage_middle w _ h, invSubBytes_invShiftRows_shiftRows_subBytes, encStage_middle w S h,
    addRoundKey_addRoundKey, invMixColumns_mixColumns]

/-- The last stage of DECRYPT undoes the first stage of ENCRYPT and the SubBytes and ShiftRows after it. -/
theorem decStage_zero_encStage : decStage w 0 (shiftRows (subBytes (encStage w 0 S))) = S := by
  rw [decStage_zero, invSubBytes_invShiftRows_shiftRows_subBytes, encStage_zero, addRoundKey_addRoundKey]

theorem decryptState_encryptState : decryptState w (encryptState w S) = S := by
  simp only [decryptState, encryptState, roundsDown, roundsUp, List.foldl_cons, List.foldl_nil, decStage_ten_encStage]
  iterate 9 rw [decStage_middle_encStage w _ (by decide)]
  exact decStage_zero_encStage w S

end

theorem decryptBlock_encryptBlock (b : Block) (w : Schedule) : decryptBlock (encryptBlock b w) w = b := by
  rw [decryptBlock, encryptBlock, blockToState_stateToBlock, decryptState_encryptState, stateToBlock_blockToState]

end Sys2Proof.Machine
end

section
open Sys2Proof Sys2Proof.Machine

/-- Settles O35: the laws of the tables at all 256 bytes and at the ten round constants. -/
theorem tablesMeetTheirLaws : Obligations.TablesMeetTheirLaws := by
  unfold Obligations.TablesMeetTheirLaws
  exact ⟨fun x => ⟨invSbox_sbox x, sbox_invSbox x, by revert x; decide⟩, by decide, rfl, rfl⟩

/-- Settles O36, byte by byte: `4 * (i / 4) + i % 4` is `i`. -/
theorem blockCodecIsABijection : Obligations.BlockCodecIsABijection := by
  unfold Obligations.BlockCodecIsABijection
  exact ⟨fun S i => getElem_stateToBlock S i.isLt, stateToBlock_blockToState, blockToState_stateToBlock⟩

/-- Settles O37, by the packing of a word as a concatenation. -/
theorem blocksAndKeysArePackedBigEndian : Obligations.BlocksAndKeysArePackedBigEndian := by
  unfold Obligations.BlocksAndKeysArePackedBigEndian
  exact ⟨fun b i => sByte_blockToState_div_mod b i.isLt, get_blockToState, get_keyRegisters, getElem_expandKey_lt_four⟩

/-- Settles O41: each byte is the matrix entry that the operation writes; the two examples are computed. -/
theorem stateOperationsGiveTheirBytes : Obligations.StateOperationsGiveTheirBytes := by
  unfold Obligations.StateOperationsGiveTheirBytes
  refine ⟨fun S r c => ⟨sByte_subBytes S r c, sByte_invSubBytes S r c, sByte_shiftRows S r c, sByte_ofMatrix _ r c⟩,
    fun S c => ⟨_, _, _, _, rfl, rfl, rfl, rfl, ?_⟩, by decide, by decide⟩
  simp only [sByte_mixColumns, sByte_invMixColumns]
  exact ⟨rfl, rfl, rfl, rfl, rfl, rfl, rfl, rfl⟩

/-- Settles O43: SubBytes and SubWord act on each byte alike, wherever a rotation puts it; AddRoundKey by the bytes of
the words. -/
theorem bytewiseOperationsCommuteWithRotations : Obligations.BytewiseOperationsCommuteWithRotations := by
  unfold Obligations.BytewiseOperationsCommuteWithRotations
  exact ⟨fun S => ⟨subBytes_shiftRows S, invSubBytes_invShiftRows S⟩, subWord_rotWord,
    fun w r S c => get_addRoundKey S w r c⟩

/-- Settles O44: equal bytes by the sums of the matrix rows, the rotations by arithmetic modulo 4. -/
theorem fixedColumnsAndRotationOrder : Obligations.FixedColumnsAndRotationOrder := by
  unfold Obligations.FixedColumnsAndRotationOrder
  exact fun S => ⟨fun c h => ⟨get_mixColumns_of_same h, get_invMixColumns_of_same h⟩, shiftRows_four_times S,
    fun c => ⟨by simp, by simp⟩⟩

/-- Settles O46: with a zero schedule the two stages of index 0 take the zero state to INV_SBOX of 0 in every byte. -/
theorem decryptionStageIsNotTheInverseOfItsIndex : Obligations.DecryptionStageIsNotTheInverseOfItsIndex := by
  unfold Obligations.DecryptionStageIsNotTheInverseOfItsIndex
  exact ⟨Vector.replicate 44 0, 0, Quad.zero, by decide⟩

/-- Settles O48: each stage of DECRYPT takes back the SubBytes and ShiftRows of one stage of ENCRYPT and the rest of the
stage before it. -/
theorem decryptUndoesEncrypt : Obligations.DecryptUndoesEncrypt := by
  unfold Obligations.DecryptUndoesEncrypt
  exact ⟨fun b w => rfl, fun b key => decryptBlock_encryptBlock b _, decryptBlock_encryptBlock⟩
end

/-! The runs of the commands (45_controller.md section 3, 43_key_schedule.md section 2): from acceptance through each
step to the end, whatever the host does short of a reset. -/

section
namespace Sys2Proof.Machine

/-! ## Following the controller, up to what a host access can change -/

/-- A cycle of a busy core is the controller's step up to what a host access can change (20_memory.md R63). -/
theorem step_of_hostErased {s f g : State} (hr : s.pins.rst = false) (hb : f.busy = true)
    (he : hostErased s = hostErased f) (hf : controllerStep f = .next g) :
    ∃ t, step s = .next t ∧ hostErased t = hostErased g := by
  have hbs : s.busy = true := (congrArg State.busy he :).trans hb
  obtain ⟨u, hu, hm⟩ := hostAccess_move s.pins.access (tick (busReadData s.pins s) s)
  have heu : hostErased u = hostErased f := (hm.hostErased_of_busy hbs).trans he
  refine ⟨withHostPart u g, ?_, (controllerStep_move hf).hostErased_withHostPart heu⟩
  rw [step_busy hr hbs, hu, andThen_next, controllerStep_of_hostErased heu hf]

/-- `n` cycles of a busy core are `n` steps of the controller, the states `f`, up to what host accesses can change. -/
theorem run_of_hostErased (n : ℕ) {f : ℕ → State} {s : State} (he : hostErased s = hostErased (f 0)) (hr : NoReset n s)
    (hf : ∀ k < n, (f k).busy = true ∧ controllerStep (f k) = .next (f (k + 1))) :
    ∃ u, Host.Core.run core n s = .next u ∧ hostErased u = hostErased (f n) := by
  induction n generalizing f s with
  | zero => exact ⟨s, rfl, he⟩
  | succ n ih =>
    obtain ⟨hrst, htail⟩ := pins_and_tail_of_take (P := fun p => p.rst = false) rfl hr
    obtain ⟨hb, hstep⟩ := hf 0 (Nat.succ_pos n)
    obtain ⟨t, ht, het⟩ := step_of_hostErased hrst hb he hstep
    have hrt : NoReset n t := by rwa [NoReset, step_port ht]
    obtain ⟨u, hu, heu⟩ := ih (f := fun k => f (k + 1)) het hrt fun k hk => hf (k + 1) (Nat.succ_lt_succ hk)
    exact ⟨u, (run_succ ht n).trans hu, heu⟩

/-- The states `f` are those of the command `i` accepted in `s`, from its acceptance on: each but the last is busy and
goes to the next by the controller's step, and the last has finished (45_controller.md R205 to R207). -/
structure CommandRun (i : Instr) (s : State) (f : ℕ → State) : Prop where
  accepted : f 0 = acceptance i s
  running : ∀ k < stepCount i, (f k).busy = true ∧ (f k).done = false
  step : ∀ k < stepCount i, controllerStep (f k) = .next (f (k + 1))
  finished : (f (stepCount i)).busy = false ∧ (f (stepCount i)).done = true

theorem CommandRun.run {i : Instr} {s : State} {f : ℕ → State} (h : CommandRun i s f) {n : ℕ} (hn : n ≤ stepCount i)
    (hr : NoReset n s) :
    ∃ u, Host.Core.run core n (acceptance i s) = .next u ∧ hostErased u = hostErased (f n) := by
  obtain ⟨-, -, -, -, hport, -⟩ := acceptance_data i s
  exact run_of_hostErased n (by rw [h.accepted]) (by rwa [NoReset, hport])
    fun k hk => ⟨(h.running k (hk.trans_le hn)).1, h.step k (hk.trans_le hn)⟩

theorem NoReset.mono {m n : ℕ} {s : State} (h : NoReset n s) (hmn : m ≤ n) : NoReset m s :=
  fun p hp => h p (List.take_subset_take_left _ hmn hp)

/-- The end of the run, from the answer to the command's CMD write. -/
theorem CommandRun.hostErased_eq {i : Instr} {s t u : State} {f : ℕ → State} (h : CommandRun i s f)
    (hchk : commandCheck (encode i) s = none) (hr : NoReset (stepCount i) s) (ht : exec i s = .next t)
    (hu : Host.Core.run core (stepCount i) t = .next u) : hostErased u = hostErased (f (stepCount i)) := by
  cases (exec_accept hchk).symm.trans ht
  obtain ⟨v, hv, he⟩ := h.run le_rfl hr
  cases hv.symm.trans hu
  exact he

/-! ## KEY_EXPAND (43_key_schedule.md R157) -/

/-- The turns of R153's loop so far give the expansion's words below the next index, whatever W held before. -/
theorem getElem_expandLoop_loadKey (K : Quad) (w : Schedule) {n : ℕ} (hn : n ≤ 40) {j : ℕ} (h : j < 44)
    (hj : j < n + 4) : (expandLoop (loadKey K w) n)[j] = (expandKey K)[j] := by
  induction n generalizing j with
  | zero => exact (getElem_loadKey K w ⟨j, hj⟩).trans (getElem_expandKey_lt_four K ⟨j, hj⟩).symm
  | succ n ih =>
    simp only [expandLoop_succ _ (show n < 40 by omega)]
    exact getElem_expandWord_of_words_below _ (fun j h hj => ih (by omega) h hj) h (by omega)

/-- They leave the words from the next index on. -/
theorem getElem_expandLoop_of_le (w : Schedule) {n : ℕ} (hn : n ≤ 40) {j : ℕ} (h : j < 44) (hj : n + 4 ≤ j) :
    (expandLoop w n)[j] = w[j] := by
  induction n with
  | zero => rfl
  | succ n ih =>
    simp only [expandLoop_succ _ (show n < 40 by omega)]
    rw [getElem_expandWord_of_ne _ _ _ _ (by omega), ih (by omega) (by omega)]

theorem expandLoop_loadKey (K : Quad) (w : Schedule) : expandLoop (loadKey K w) 40 = expandKey K :=
  Vector.ext fun _ h => getElem_expandLoop_loadKey K w le_rfl h h

/-- `s` after KEY_EXPAND has been accepted in it and has taken `n` steps. -/
def expandAt (s : State) (n : ℕ) : State :=
  { s with
    busy := decide (n < 40)
    done := decide (40 ≤ n)
    opcur := 0x1
    w := expandLoop (loadKey s.key s.w) n
    widx := BitVec.ofNat 6 (n + 4)
    keyValid := decide (40 ≤ n) }

/-- A KEY_EXPAND step at WIDX `i`: the one at 43 ends the command (R157). -/
theorem stepKeyExpand_eq {s : State} {i : ℕ} (hi : s.widx.toNat = i) (h : 4 ≤ i ∧ i < 44) : stepKeyExpand s = .next (
    if i = 43 then finish (validateKey (putScheduleWord i h s)) else putScheduleWord i h s) := by
  subst hi
  split
  case isTrue hl => exact stepKeyExpand_last h hl
  case isFalse hl => exact stepKeyExpand_word h hl

theorem controllerStep_expandAt (s : State) {n : ℕ} (hn : n < 40) :
    controllerStep (expandAt s n) = .next (expandAt s (n + 1)) := by
  have hw : (expandAt s n).widx.toNat = n + 4 := by simp [expandAt]; omega
  rw [controllerStep_keyExpand rfl, stepKeyExpand_eq hw (by omega)]
  congr 1
  split
  case isTrue h =>
    obtain rfl : n = 39 := by omega
    simp [expandAt, finish, validateKey, putScheduleWord, expandLoop_succ _ hn]
  case isFalse h =>
    simpa [expandAt, putScheduleWord, expandLoop_succ _ hn] using ⟨by omega, by omega, by omega⟩

theorem commandRun_keyExpand (s : State) : CommandRun .keyExpand s (expandAt s) where
  accepted := rfl
  running _ hk := ⟨decide_eq_true hk, decide_eq_false hk.not_ge⟩
  step _ hk := controllerStep_expandAt s hk
  finished := ⟨rfl, rfl⟩

/-! ## ENCRYPT and DECRYPT (45_controller.md R209, R210) -/

/-- One more element of a list is one more application of the folded function. -/
theorem foldl_take_succ {α β : Type} (g : β → α → β) (b : β) {l : List α} {n : ℕ} (h : n < l.length) :
    (l.take (n + 1)).foldl g b = g ((l.take n).foldl g b) l[n] := by
  rw [← List.take_append_getElem h, List.foldl_append]
  rfl

/-- `s` after ENCRYPT has been accepted in it and has taken `n` steps. -/
def encryptAt (s : State) (n : ℕ) : State :=
  { s with
    busy := decide (n < 11)
    done := decide (11 ≤ n)
    opcur := 0x2
    round := BitVec.ofNat 4 (min n 10)
    state := ((List.finRange 11).take n).foldl (fun S r => encStage s.w r S) s.state }

theorem controllerStep_encryptAt (s : State) {n : ℕ} (hn : n < 11) :
    controllerStep (encryptAt s n) = .next (encryptAt s (n + 1)) := by
  have hr : (encryptAt s n).round.toNat = (⟨n, hn⟩ : Fin 11).val := by simp [encryptAt]; omega
  rw [controllerStep_encrypt rfl, stepEncrypt_eq hr]
  congr 1
  have hfold := foldl_take_succ (fun S r => encStage s.w r S) s.state (l := List.finRange 11) (n := n)
    (by simpa using hn)
  simp only [List.getElem_finRange, Fin.cast_mk] at hfold
  split
  case isTrue h =>
    obtain rfl : n = 10 := h
    simpa [encryptAt, finish, putState] using hfold.symm
  case isFalse h =>
    have h10 : n < 10 := by have : n ≠ 10 := h; omega
    have hround : BitVec.ofNat 4 (min n 10) + 1#4 = BitVec.ofNat 4 (min (n + 1) 10) := by
      rw [min_eq_left h10.le, min_eq_left h10, BitVec.ofNat_add]
    simpa [encryptAt, putRound, putState, hfold, hround] using ⟨by omega, by omega⟩

theorem commandRun_encrypt (s : State) : CommandRun .encrypt s (encryptAt s) where
  accepted := rfl
  running _ hk := ⟨decide_eq_true hk, decide_eq_false hk.not_ge⟩
  step _ hk := controllerStep_encryptAt s hk
  finished := ⟨rfl, rfl⟩

/-- `s` after DECRYPT has been accepted in it and has taken `n` steps. -/
def decryptAt (s : State) (n : ℕ) : State :=
  { s with
    busy := decide (n < 11)
    done := decide (11 ≤ n)
    opcur := 0x3
    round := BitVec.ofNat 4 (10 - n)
    state := ((List.finRange 11).reverse.take n).foldl (fun S r => decStage s.w r S) s.state }

theorem controllerStep_decryptAt (s : State) {n : ℕ} (hn : n < 11) :
    controllerStep (decryptAt s n) = .next (decryptAt s (n + 1)) := by
  have hr : (decryptAt s n).round.toNat = (⟨10 - n, by omega⟩ : Fin 11).val := by simp [decryptAt]; omega
  rw [controllerStep_decrypt rfl, stepDecrypt_eq hr]
  congr 1
  have hfold := foldl_take_succ (fun S r => decStage s.w r S) s.state (l := (List.finRange 11).reverse) (n := n)
    (by simpa using hn)
  simp only [List.getElem_reverse, List.length_finRange, List.getElem_finRange, Fin.cast_mk] at hfold
  split
  case isTrue h =>
    obtain rfl : n = 10 := by have : 10 - n = 0 := h; omega
    simpa [decryptAt, finish, putState] using hfold.symm
  case isFalse h =>
    have h10 : n < 10 := by have : 10 - n ≠ 0 := h; omega
    have hround : BitVec.ofNat 4 (10 - n) - 1#4 = BitVec.ofNat 4 (10 - (n + 1)) := by
      rw [show 10 - n = 10 - (n + 1) + 1 by omega, BitVec.ofNat_add, BitVec.add_sub_cancel]
    simpa [decryptAt, putRound, putState, hfold, hround] using ⟨by omega, by omega⟩

theorem commandRun_decrypt (s : State) : CommandRun .decrypt s (decryptAt s) where
  accepted := rfl
  running _ hk := ⟨decide_eq_true hk, decide_eq_false hk.not_ge⟩
  step _ hk := controllerStep_decryptAt s hk
  finished := ⟨rfl, rfl⟩

/-! ## The states of a run as the statements write them -/

section
variable (s : State) {n : ℕ}

theorem expandAt_forty : expandAt s 40 = { s with
    busy := false, done := true, opcur := 0x1, w := expandKey s.key, widx := 44, keyValid := true } := by
  simp [expandAt, expandLoop_loadKey]

theorem encryptAt_of_lt (hn : n < 11) : encryptAt s n = { s with
    busy := true
    done := false
    opcur := 0x2
    round := BitVec.ofNat 4 n
    state := ((List.finRange 11).take n).foldl (fun S r => encStage s.w r S) s.state } := by
  simp [encryptAt, hn, show min n 10 = n by omega]

theorem encryptAt_eleven : encryptAt s 11 = { s with
    busy := false
    done := true
    opcur := 0x2
    round := 10
    state := blockToState (encryptBlock (stateToBlock s.state) s.w) } := by
  have hrounds : (List.finRange 11).take 11 = roundsUp := by decide
  simp [encryptAt, hrounds, encryptBlock, encryptState]

theorem decryptAt_of_lt (hn : n < 11) : decryptAt s n = { s with
    busy := true
    done := false
    opcur := 0x3
    round := BitVec.ofNat 4 (10 - n)
    state := ((List.finRange 11).reverse.take n).foldl (fun S r => decStage s.w r S) s.state } := by
  simp [decryptAt, hn]

theorem decryptAt_eleven : decryptAt s 11 = { s with
    busy := false
    done := true
    opcur := 0x3
    round := 0
    state := blockToState (decryptBlock (stateToBlock s.state) s.w) } := by
  have hrounds : (List.finRange 11).reverse.take 11 = roundsDown := by decide
  simp [decryptAt, hrounds, decryptBlock, decryptState]

end

/-! ## The commands of one step -/

/-- The states of a command of one step: `a` at its acceptance, `d` when it has finished. -/
def oneStepAt (a d : State) (n : ℕ) : State :=
  match n with
  | 0 => a
  | _ + 1 => d

theorem commandRun_oneStep {i : Instr} {s d : State} (hi : stepCount i = 1)
    (hstep : controllerStep (acceptance i s) = .next d) (hd : d.busy = false ∧ d.done = true) :
    CommandRun i s (oneStepAt (acceptance i s) d) where
  accepted := rfl
  running k hk := by
    obtain rfl : k = 0 := by omega
    exact acceptance_busy (by rintro rfl; cases hi) s
  step k hk := by
    obtain rfl : k = 0 := by omega
    exact hstep
  finished := by rwa [hi]

/-- An idle core accepts a well-formed command under a valid key where it needs one (45_controller.md R205). -/
theorem commandCheck_of_wellFormed {i : Instr} {s : State} (hi : i.wellFormed = true) (hb : s.busy = false)
    (hk : i = .encrypt ∨ i = .decrypt ∨ (∃ rnd, i = .addRoundKey rnd) → s.keyValid = true) :
    commandCheck (encode i) s = none :=
  commandCheck_pass hb (illegalClass_encode hi) fun h => hk (needsSchedule_encode.mp h)

/-- On an idle core a command of one step is accepted and does its step, whatever the host does in that cycle. -/
theorem oneStepCommand_of_step {i : Instr} {s d : State} (hchk : commandCheck (encode i) s = none)
    (hr : NoReset 1 s) (hi : stepCount i = 1) (hstep : controllerStep (acceptance i s) = .next d)
    (hd : d.busy = false ∧ d.done = true) : OneStepCommand i (acceptance i s) d s :=
  ⟨exec_accept hchk, (commandRun_oneStep hi hstep hd).run hi.ge hr⟩

/-- The same for a command that needs no key. -/
theorem oneStepCommand_without_key {i : Instr} {s d : State} (hb : s.busy = false) (hr : NoReset 1 s)
    (hi : i.wellFormed = true) (hk : needsSchedule (encode i) = false) (hc : stepCount i = 1)
    (hstep : controllerStep (acceptance i s) = .next d) (hd : d.busy = false ∧ d.done = true) :
    OneStepCommand i (acceptance i s) d s :=
  oneStepCommand_of_step (commandCheck_pass hb (illegalClass_encode hi) (by simp [hk])) hr hc hstep hd

/-- The controller's step of ADD_ROUND_KEY just accepted (44_round_transforms.md R184). -/
theorem controllerStep_acceptance_addRoundKey (s : State) {rnd : BitVec 4} {r : Fin 11} (hr : rnd.toNat = r.val) :
    controllerStep (acceptance (.addRoundKey rnd) s) =
      .next (finish (putState (addRoundKey s.w r s.state) (acceptance (.addRoundKey rnd) s))) :=
  (controllerStep_addRoundKey rfl).trans (stepAddRoundKey_eq hr)

/-- The controller's step of GF_MULC just accepted (40_gf_arith.md R107). -/
theorem controllerStep_acceptance_gfMulc (s : State) {c b : Byte} (hb : mulc c s.operand = some b) :
    controllerStep (acceptance (.gfMulc c) s) = .next (finish (putResult b (acceptance (.gfMulc c) s))) :=
  (controllerStep_gfMulc rfl).trans (stepGfMulc_eq hb)

/-- AddRoundKey word by word (R170). -/
theorem addRoundKey_eq_words (w : Schedule) (r : Fin 11) (S : Quad) : addRoundKey w r S =
    ⟨S.w0 ^^^ w[4 * r.val], S.w1 ^^^ w[4 * r.val + 1], S.w2 ^^^ w[4 * r.val + 2], S.w3 ^^^ w[4 * r.val + 3]⟩ :=
  Quad.ext_get fun c => by
    rw [get_addRoundKey]
    fin_cases c <;> rfl

/-- Every well-formed command but NOP has a run. -/
theorem exists_commandRun {i : Instr} (hi : i.wellFormed = true) (hnop : i ≠ .nop) (s : State) :
    ∃ f, CommandRun i s f := by
  cases i with
  | nop => exact absurd rfl hnop
  | keyExpand => exact ⟨_, commandRun_keyExpand s⟩
  | encrypt => exact ⟨_, commandRun_encrypt s⟩
  | decrypt => exact ⟨_, commandRun_decrypt s⟩
  | addRoundKey rnd =>
    have hr : rnd.toNat < 11 := Nat.lt_succ_of_le (of_decide_eq_true hi)
    exact ⟨_, commandRun_oneStep rfl (controllerStep_acceptance_addRoundKey s (r := ⟨_, hr⟩) rfl) ⟨rfl, rfl⟩⟩
  | gfMulc c =>
    obtain ⟨b, hb⟩ := exists_mulc hi s.operand
    exact ⟨_, commandRun_oneStep rfl (controllerStep_acceptance_gfMulc s hb) ⟨rfl, rfl⟩⟩
  | _ => exact ⟨_, commandRun_oneStep rfl rfl ⟨rfl, rfl⟩⟩

end Sys2Proof.Machine
end

section
open Sys2Proof Sys2Proof.Machine

/-- Settles O29: the run of the command from its acceptance on; NOP has no step. -/
theorem acceptedCommandFinishesAfterItsSteps : Obligations.AcceptedCommandFinishesAfterItsSteps := by
  unfold Obligations.AcceptedCommandFinishesAfterItsSteps
  intro i s hi hb hk hr
  refine ⟨_, exec_accept (commandCheck_of_wellFormed hi hb hk), ?_⟩
  by_cases hnop : i = .nop
  · subst hnop
    exact ⟨nofun, s, rfl, hb, fun h => absurd rfl h⟩
  · obtain ⟨f, hf⟩ := exists_commandRun hi hnop s
    refine ⟨fun k hlt => ?_, ?_⟩
    · obtain ⟨u, hu, he⟩ := hf.run hlt.le (hr.mono hlt.le)
      obtain ⟨hbusy, hdone⟩ := hf.running k hlt
      exact ⟨u, hu, (congrArg State.busy he :).trans hbusy, (congrArg State.done he :).trans hdone⟩
    · obtain ⟨u, hu, he⟩ := hf.run le_rfl hr
      obtain ⟨hbusy, hdone⟩ := hf.finished
      exact ⟨u, hu, (congrArg State.busy he :).trans hbusy, fun _ => (congrArg State.done he :).trans hdone⟩

/-- Settles O50: acceptance loads the key words, and the 40 turns of the loop make the expansion whatever W held. -/
theorem keyExpandFillsTheSchedule : Obligations.KeyExpandFillsTheSchedule := by
  unfold Obligations.KeyExpandFillsTheSchedule
  intro s hb hr
  obtain ⟨u, hu, he⟩ := (commandRun_keyExpand s).run le_rfl hr
  exact ⟨_, u, exec_keyExpand hb, rfl, getElem_loadKey s.key s.w, fun j h hj => getElem_loadKey_of_le _ _ h hj, hu,
    he.trans (congrArg hostErased (expandAt_forty s))⟩

/-- Settles O51: after `n` turns of the loop the words below WIDX are the expansion's and the others the old ones. -/
theorem expansionProceedsWordByWord : Obligations.ExpansionProceedsWordByWord := by
  unfold Obligations.ExpansionProceedsWordByWord
  intro s n hb hn hr
  obtain ⟨u, hu, he⟩ := (commandRun_keyExpand s).run hn.le hr
  obtain ⟨hbusy, -⟩ := (commandRun_keyExpand s).running n hn
  have hw : u.w = expandLoop (loadKey s.key s.w) n := (congrArg State.w he :)
  have hwidx : u.widx = BitVec.ofNat 6 (n + 4) := (congrArg State.widx he :)
  have hkey : u.keyValid = decide (40 ≤ n) := (congrArg State.keyValid he :)
  refine ⟨_, u, exec_keyExpand hb, hu, (congrArg State.busy he :).trans hbusy, ?_, ?_, fun j h => ?_⟩
  · rw [hwidx, BitVec.toNat_ofNat]
    omega
  · rw [hkey, decide_eq_false hn.not_ge]
  · simp only [hw]
    split
    case isTrue hj => exact getElem_expandLoop_loadKey _ _ hn.le h hj
    case isFalse hj =>
      rw [getElem_expandLoop_of_le _ hn.le h (by omega), getElem_loadKey_of_le _ _ h (by omega)]

/-- Settles O52, by the run of ENCRYPT. -/
theorem encryptCompletes : Obligations.EncryptCompletes := by
  unfold Obligations.EncryptCompletes
  intro s hb hk hr
  refine ⟨exec_accept (commandCheck_of_wellFormed rfl hb fun _ => hk), fun n hn => ?_, ?_⟩
  · rw [← encryptAt_of_lt s hn]
    exact (commandRun_encrypt s).run hn.le (hr.mono hn.le)
  · rw [← encryptAt_eleven]
    exact (commandRun_encrypt s).run le_rfl hr

/-- Settles O53, by the run of DECRYPT. -/
theorem decryptCompletes : Obligations.DecryptCompletes := by
  unfold Obligations.DecryptCompletes
  intro s hb hk hr
  refine ⟨exec_accept (commandCheck_of_wellFormed rfl hb fun _ => hk), fun n hn => ?_, ?_⟩
  · rw [← decryptAt_of_lt s hn]
    exact (commandRun_decrypt s).run hn.le (hr.mono hn.le)
  · rw [← decryptAt_eleven]
    exact (commandRun_decrypt s).run le_rfl hr

/-- Settles O54: each of the six is accepted without a key and its one step is the transform. -/
theorem singleStageCommandsComplete : Obligations.SingleStageCommandsComplete := by
  unfold Obligations.SingleStageCommandsComplete
  intro s hb hr
  exact ⟨oneStepCommand_without_key hb hr rfl rfl rfl rfl ⟨rfl, rfl⟩,
    oneStepCommand_without_key hb hr rfl rfl rfl rfl ⟨rfl, rfl⟩,
    oneStepCommand_without_key hb hr rfl rfl rfl rfl ⟨rfl, rfl⟩,
    oneStepCommand_without_key hb hr rfl rfl rfl rfl ⟨rfl, rfl⟩,
    oneStepCommand_without_key hb hr rfl rfl rfl rfl ⟨rfl, rfl⟩,
    oneStepCommand_without_key hb hr rfl rfl rfl rfl ⟨rfl, rfl⟩⟩

/-- Settles O55: the one step is AddRoundKey, word by word. -/
theorem addRoundKeyCompletes : Obligations.AddRoundKeyCompletes := by
  unfold Obligations.AddRoundKeyCompletes
  intro s r hb hk hr
  have hrnd : (BitVec.ofNat 4 r.val).toNat = r.val := by simp; omega
  rw [← addRoundKey_eq_words]
  exact oneStepCommand_of_step (commandCheck_of_wellFormed (decide_eq_true (by omega)) hb fun _ => hk) hr rfl
    (controllerStep_acceptance_addRoundKey s hrnd) ⟨rfl, rfl⟩

/-- Settles O56: the lookups have no precondition, and a constant of CSET has a product. -/
theorem byteCommandsComplete : Obligations.ByteCommandsComplete := by
  unfold Obligations.ByteCommandsComplete
  refine fun s hb hr => ⟨oneStepCommand_without_key hb hr rfl rfl rfl rfl ⟨rfl, rfl⟩,
    oneStepCommand_without_key hb hr rfl rfl rfl rfl ⟨rfl, rfl⟩, fun c hc => ?_⟩
  have hc : cset.contains c = true := List.contains_iff_mem.mpr hc
  obtain ⟨b, hmul⟩ := exists_mulc hc s.operand
  exact ⟨b, hmul, oneStepCommand_of_step (commandCheck_gfMulc hb hc) hr rfl
    (controllerStep_acceptance_gfMulc s hmul) ⟨rfl, rfl⟩⟩

/-- Settles O58: STATE at the end of either run is the stages, which read only STATE and W, applied to STATE. -/
theorem blockResultDependsOnStateAndScheduleOnly : Obligations.BlockResultDependsOnStateAndScheduleOnly := by
  unfold Obligations.BlockResultDependsOnStateAndScheduleOnly
  intro i s₁ s₂ t₁ t₂ u₁ u₂ hi hb₁ hb₂ hk₁ hk₂ hr₁ hr₂ hstate hw ht₁ ht₂ hu₁ hu₂
  have hchk {s : State} (hb : s.busy = false) (hk : s.keyValid = true) : commandCheck (encode i) s = none :=
    commandCheck_of_wellFormed (by obtain rfl | rfl := hi <;> rfl) hb fun _ => hk
  obtain rfl | rfl := hi
  · have h₁ := (commandRun_encrypt s₁).hostErased_eq (hchk hb₁ hk₁) hr₁ ht₁ hu₁
    have h₂ := (commandRun_encrypt s₂).hostErased_eq (hchk hb₂ hk₂) hr₂ ht₂ hu₂
    have hend : (encryptAt s₁ 11).state = (encryptAt s₂ 11).state := by simp only [encryptAt, hstate, hw]
    exact (congrArg State.state h₁ :).trans (hend.trans (congrArg State.state h₂ :).symm)
  · have h₁ := (commandRun_decrypt s₁).hostErased_eq (hchk hb₁ hk₁) hr₁ ht₁ hu₁
    have h₂ := (commandRun_decrypt s₂).hostErased_eq (hchk hb₂ hk₂) hr₂ ht₂ hu₂
    have hend : (decryptAt s₁ 11).state = (decryptAt s₂ 11).state := by simp only [decryptAt, hstate, hw]
    exact (congrArg State.state h₁ :).trans (hend.trans (congrArg State.state h₂ :).symm)
end

/-! The boot order (70_reset_and_hazards.md section 2): loading four words, and a command polled to its end. -/

section
namespace Sys2Proof.Machine

/-! ## Loading the key and the block (R263)

In the two runs of four writes, `by exact` puts off the premise that the core is idle until the goal has named the
state. -/

/-- A host write on an idle core, by the list of the pins to come. -/
theorem step_write_of_port {s : State} {off : BitVec 10} {v : Word} {rest : List BusCycle} (hb : s.busy = false)
    (hp : s.port = writeCycle off v :: rest) : step s = memWrite off v { s with port := rest, rdata := 0 } := by
  obtain ⟨hr, ha⟩ := pins_of_port_write hp
  rw [step_idle_write hr hb ha, tick_eq_of_port hp]

theorem run_key_write {s : State} {off : BitVec 10} {k : Fin 4} {v : Word} {rest : List BusCycle} (hb : s.busy = false)
    (hp : s.port = writeCycle off v :: rest) (hr : registerAt off = .key k) (n : ℕ) :
    Host.Core.run core (n + 1) s = Host.Core.run core n (putKeyWord k v { s with port := rest, rdata := 0 }) :=
  run_succ (by rw [step_write_of_port hb hp, memWrite_key v _ hr, if_neg (by simp [hb])]) n

theorem run_state_write {s : State} {off : BitVec 10} {c : Fin 4} {v : Word} {rest : List BusCycle}
    (hb : s.busy = false) (hp : s.port = writeCycle off v :: rest) (hr : registerAt off = .state c) (n : ℕ) :
    Host.Core.run core (n + 1) s = Host.Core.run core n (putStateWord c v { s with port := rest, rdata := 0 }) :=
  run_succ (by rw [step_write_of_port hb hp, memWrite_state v _ hr, if_neg (by simp [hb])]) n

theorem run_load_key {s : State} {K : Quad} {rest : List BusCycle} (hb : s.busy = false)
    (hp : s.port = writeCycle 8 K.w0 :: writeCycle 9 K.w1 :: writeCycle 10 K.w2 :: writeCycle 11 K.w3 :: rest) :
    Host.Core.run core 4 s = .next { s with key := K, keyValid := false, port := rest, rdata := 0 } := by
  refine Eq.trans (run_key_write hb hp (registerAt_key 0) 3) ?_
  refine Eq.trans (run_key_write (by exact hb) rfl (registerAt_key 1) 2) ?_
  refine Eq.trans (run_key_write (by exact hb) rfl (registerAt_key 2) 1) ?_
  exact run_key_write (by exact hb) rfl (registerAt_key 3) 0

theorem run_load_block {s : State} {S : Quad} {rest : List BusCycle} (hb : s.busy = false)
    (hp : s.port = writeCycle 12 S.w0 :: writeCycle 13 S.w1 :: writeCycle 14 S.w2 :: writeCycle 15 S.w3 :: rest) :
    Host.Core.run core 4 s = .next { s with state := S, port := rest, rdata := 0 } := by
  refine Eq.trans (run_state_write hb hp (registerAt_state 0) 3) ?_
  refine Eq.trans (run_state_write (by exact hb) rfl (registerAt_state 1) 2) ?_
  refine Eq.trans (run_state_write (by exact hb) rfl (registerAt_state 2) 1) ?_
  exact run_state_write (by exact hb) rfl (registerAt_state 3) 0

/-- A CMD write of a command that an idle core accepts. -/
theorem step_command_accepted {s : State} {i : Instr} {rest : List BusCycle} (hi : i.wellFormed = true)
    (hp : s.port = writeCycle 0 (encode i) :: rest)
    (hchk : commandCheck (encode i) s = none) : step s = .next (acceptance i { s with port := rest, rdata := 0 }) := by
  obtain ⟨hb, -⟩ := commandCheck_eq_none.mp hchk
  obtain ⟨hr, ha⟩ := pins_of_port_write hp
  rw [step_command hb ⟨hr, _, ha, decode_eq_ok_iff.mpr ⟨hi, rfl⟩⟩, tick_eq_of_port hp]
  exact exec_accept hchk

/-! ## Polling STATUS (30_encoding.md R78) -/

section
variable {s t : State} {n : ℕ} {rest : List BusCycle}

/-- The pins while at least one STATUS read is to come. -/
theorem pins_of_poll (hp : s.port = List.replicate (n + 1) (readCycle 1) ++ rest) : s.pins = readCycle 1 :=
  pins_eq_of_port hp

/-- What a STATUS read puts on the bus. -/
theorem step_poll_rdata (hp : s.port = List.replicate (n + 1) (readCycle 1) ++ rest) (h : step s = .next t) :
    t.rdata = statusWord s := by
  have hpins := pins_of_poll hp
  rw [(step_bus (by rw [hpins]; rfl) h).2, hpins]
  exact memRead_of_registerAt registerAt_status s

/-- STATUS reads on an idle core change nothing but the bus. -/
theorem run_poll_idle (n : ℕ) (hb : s.busy = false) (hp : s.port = List.replicate n (readCycle 1) ++ rest) :
    ∃ u, Host.Core.run core n s = .next u ∧ hostErased u = hostErased s := by
  induction n generalizing s with
  | zero => exact ⟨s, rfl, rfl⟩
  | succ n ih =>
    have hpins := pins_of_poll hp
    have hstep : step s = .next (tick (busReadData s.pins s) s) := by
      rw [step_no_write (by rw [hpins]; rfl) (by rw [hpins]; nofun), hb]
      rfl
    obtain ⟨u, hu, he⟩ := ih (s := tick (busReadData s.pins s) s) hb (by rw [tick_port, hp]; rfl)
    exact ⟨u, (run_succ hstep n).trans hu, he⟩

theorem noReset_of_poll {j : ℕ} (hj : j ≤ n) (hp : s.port = List.replicate n (readCycle 1) ++ rest) :
    NoReset j s := by
  intro p hmem
  rw [hp, List.take_append_of_le_length (by simpa using hj), List.take_replicate] at hmem
  rw [List.eq_of_mem_replicate hmem]
  rfl

theorem CommandRun.busy_eq {i : Instr} {f : ℕ → State} (h : CommandRun i s f) {k : ℕ} (hk : k ≤ stepCount i) :
    (f k).busy = decide (k < stepCount i) := by
  obtain hlt | rfl := hk.lt_or_eq
  · rw [(h.running k hlt).1, decide_eq_true hlt]
  · rw [h.finished.1, decide_eq_false (lt_irrefl _)]

/-- While STATUS is polled the command runs to its end and the core then stays as it is. -/
theorem CommandRun.run_poll {i : Instr} {f : ℕ → State} (h : CommandRun i s f)
    (hp : s.port = List.replicate n (readCycle 1) ++ rest) {j : ℕ} (hj : j ≤ n) :
    ∃ u, Host.Core.run core j (acceptance i s) = .next u ∧ hostErased u = hostErased (f (min j (stepCount i))) ∧
      u.port = List.replicate (n - j) (readCycle 1) ++ rest := by
  have hport (j : ℕ) (hj : j ≤ n) {u : State} (hu : Host.Core.run core j (acceptance i s) = .next u) :
      u.port = List.replicate (n - j) (readCycle 1) ++ rest := by
    obtain ⟨-, -, -, -, hacc, -⟩ := acceptance_data i s
    rw [run_port j hu, hacc, hp, List.drop_append_of_le_length (by simpa using hj), List.drop_replicate]
  suffices ∃ u, Host.Core.run core j (acceptance i s) = .next u ∧
      hostErased u = hostErased (f (min j (stepCount i))) by
    obtain ⟨u, hu, he⟩ := this
    exact ⟨u, hu, he, hport j hj hu⟩
  obtain hle | ⟨d, rfl⟩ := (le_total j (stepCount i)).imp_right Nat.exists_eq_add_of_le
  · rw [min_eq_left hle]
    exact h.run hle (noReset_of_poll hj hp)
  · obtain ⟨v, hv, hev⟩ := h.run le_rfl (noReset_of_poll (by omega) hp)
    have hbv : v.busy = false := (congrArg State.busy hev :).trans h.finished.1
    obtain ⟨u, hu, heu⟩ := run_poll_idle (s := v) (rest := List.replicate (n - stepCount i - d) (readCycle 1) ++ rest) d
      hbv (by rw [hport _ (by omega) hv, ← List.append_assoc, List.replicate_append_replicate]; congr 2; omega)
    exact ⟨u, (run_add hv d).trans hu, by rw [min_eq_right (by omega), heu, hev]⟩

theorem errorRecord_acceptance (i : Instr) (s : State) : errorRecord (acceptance i s) = errorRecord s := by
  cases i <;> rfl

/-- A command written to an idle core and then polled. Read `j` of the poll shows BUSY 1 as long as the command has
steps to take, and KEY_VALID as it stands after `j - 1` steps; at the end the command has finished and no error was
raised. -/
theorem run_command_and_poll {i : Instr} {f : ℕ → State} (hi : i.wellFormed = true)
    (hp : s.port = writeCycle 0 (encode i) :: (List.replicate n (readCycle 1) ++ rest))
    (hchk : commandCheck (encode i) s = none) (hn : stepCount i ≤ n)
    (h : CommandRun i { s with port := List.replicate n (readCycle 1) ++ rest, rdata := 0 } f) :
    (∀ j, 1 ≤ j → j ≤ n → ∃ t, Host.Core.run core (1 + j) s = .next t ∧
      t.rdata.getLsbD 0 = decide (j ≤ stepCount i) ∧
      t.rdata.getLsbD 2 = (f (min (j - 1) (stepCount i))).keyValid) ∧
    ∃ u, Host.Core.run core (1 + n) s = .next u ∧ hostErased u = hostErased (f (stepCount i)) ∧ u.port = rest ∧
      errorRecord u = errorRecord s := by
  have hstep := step_command_accepted hi hp hchk
  have hfirst : Host.Core.run core 1 s = .next _ := run_succ hstep 0
  refine ⟨fun j hj hjn => ?_, ?_⟩
  · obtain ⟨k, rfl⟩ : ∃ k, j = k + 1 := ⟨j - 1, by omega⟩
    obtain ⟨u, hu, he, hup⟩ := h.run_poll rfl (Nat.le_of_succ_le hjn)
    obtain ⟨t, ht, -⟩ := h.run_poll rfl hjn
    obtain ⟨t', ht', hend⟩ := run_succ_eq_next.mp ((run_add hu 1).symm.trans ht)
    cases hend
    have hread : t.rdata = statusWord u :=
      step_poll_rdata (n := n - (k + 1)) (by rw [hup, show n - k = n - (k + 1) + 1 by omega]) ht'
    obtain ⟨hbusy, -, hvalid, -⟩ := statusWordShowsItsFields u
    refine ⟨t, (run_add hfirst _).trans ht, ?_, ?_⟩
    · rw [hread, hbusy, show u.busy = (f _).busy from (congrArg State.busy he :), h.busy_eq (min_le_right _ _)]
      exact decide_eq_decide.mpr (by omega)
    · rw [hread, hvalid]
      exact (congrArg State.keyValid he :)
  · obtain ⟨u, hu, he, hup⟩ := h.run_poll rfl le_rfl
    refine ⟨u, (run_add hfirst n).trans hu, by rwa [min_eq_right hn] at he, by simpa using hup, ?_⟩
    obtain ⟨-, -, -, -, hacc, -⟩ :=
      acceptance_data i { s with port := List.replicate n (readCycle 1) ++ rest, rdata := 0 }
    refine (run_errorRecord_of_no_write n _ _ (fun p hmem => ?_) hu).trans (errorRecord_acceptance i _)
    rw [hacc, List.take_left' (List.length_replicate ..)] at hmem
    rw [List.eq_of_mem_replicate hmem]
    exact ⟨rfl, nofun⟩

end

/-! ## The two parts of the boot order -/

section
variable {s : State} {n : ℕ} {rest : List BusCycle}

/-- The key is loaded, expanded and the end of the expansion polled, on any idle core. -/
theorem run_boot_key {K : Quad} (hb : s.busy = false) (hn : 40 ≤ n)
    (hp : s.port = writeCycle 8 K.w0 :: writeCycle 9 K.w1 :: writeCycle 10 K.w2 :: writeCycle 11 K.w3 ::
      writeCycle 0 (encode .keyExpand) :: (List.replicate n (readCycle 1) ++ rest)) :
    (∀ j, 1 ≤ j → j ≤ n → ∃ t, Host.Core.run core (5 + j) s = .next t ∧
      t.rdata.getLsbD 0 = decide (j ≤ 40) ∧ t.rdata.getLsbD 2 = decide (41 ≤ j)) ∧
    ∃ u, Host.Core.run core (5 + n) s = .next u ∧ u.port = rest ∧ u.busy = false ∧ u.keyValid = true ∧
      u.w = expandKey K ∧ errorRecord u = errorRecord s := by
  have hload := run_load_key hb hp
  obtain ⟨hreads, u, hu, he, hport, herr⟩ := run_command_and_poll (i := .keyExpand) rfl rfl
    (commandCheck_of_wellFormed (s := { s with key := K, keyValid := false, port := _, rdata := 0 }) rfl hb (by simp))
    hn (commandRun_keyExpand _)
  rw [show stepCount .keyExpand = 40 from rfl, expandAt_forty] at he
  refine ⟨fun j hj hjn => ?_, u, ?_, hport, (congrArg State.busy he :), (congrArg State.keyValid he :),
    (congrArg State.w he :), herr⟩
  · obtain ⟨t, ht, hbusy, hvalid⟩ := hreads j hj hjn
    refine ⟨t, ?_, hbusy, hvalid.trans (decide_eq_decide.mpr ?_)⟩
    · rw [show 5 + j = 4 + (1 + j) by omega, run_add hload, ht]
    · rw [show stepCount .keyExpand = 40 from rfl]
      omega
  · rw [show 5 + n = 4 + (1 + n) by omega, run_add hload, hu]

/-- The block is loaded and a block command run and polled, on an idle core with a valid key. -/
theorem run_boot_block {S : Quad} {i : Instr} {f : State → ℕ → State} (hi : i.wellFormed = true)
    (hc : stepCount i = 11) (hf : ∀ q, CommandRun i q (f q)) (hb : s.busy = false) (hk : s.keyValid = true)
    (hn : 11 ≤ n) (hp : s.port = writeCycle 12 S.w0 :: writeCycle 13 S.w1 :: writeCycle 14 S.w2 ::
      writeCycle 15 S.w3 :: writeCycle 0 (encode i) :: (List.replicate n (readCycle 1) ++ rest)) :
    (∀ j, 1 ≤ j → j ≤ n → ∃ t, Host.Core.run core (5 + j) s = .next t ∧ t.rdata.getLsbD 0 = decide (j ≤ 11)) ∧
    ∃ u, Host.Core.run core (5 + n) s = .next u ∧ u.port = rest ∧
      (∃ q : State, hostErased u = hostErased (f q 11) ∧ q.state = S ∧ q.w = s.w ∧ q.keyValid = true) ∧
      errorRecord u = errorRecord s := by
  have hload := run_load_block hb hp
  obtain ⟨hreads, u, hu, he, hport, herr⟩ := run_command_and_poll hi rfl
    (commandCheck_of_wellFormed (s := { s with state := S, port := _, rdata := 0 }) hi hb fun _ => hk) (hc ▸ hn) (hf _)
  rw [hc] at hreads he
  refine ⟨fun j hj hjn => ?_, u, ?_, hport, ⟨_, he, rfl, rfl, hk⟩, herr⟩
  · obtain ⟨t, ht, hbusy, -⟩ := hreads j hj hjn
    refine ⟨t, ?_, hbusy⟩
    rw [show 5 + j = 4 + (1 + j) by omega, run_add hload, ht]
  · rw [show 5 + n = 4 + (1 + n) by omega, run_add hload, hu]

end

/-- The boot order with a block command that takes 11 steps and leaves `g` of the block and W in STATE. -/
theorem bootOrderComputes {i : Instr} {f : State → ℕ → State} {g : Block → Schedule → Block} (hi : i.wellFormed = true)
    (hc : stepCount i = 11) (hf : ∀ q, CommandRun i q (f q))
    (hend : ∀ q, (f q 11).keyValid = q.keyValid ∧ (f q 11).state = blockToState (g (stateToBlock q.state) q.w)) :
    BootOrderComputes (encode i) g := by
  intro s key b n m hb hn hm hp
  obtain ⟨hkeyReads, t, ht, htp, htb, htk, htw, hterr⟩ := run_boot_key (K := keyRegisters key) (n := n) hb (by omega)
    (by simpa [bootOrder, show encode .keyExpand = 0x00000001 by decide] using hp)
  obtain ⟨hblockReads, u, hu, hup, ⟨q, he, hstate, hw, hk⟩, huerr⟩ :=
    run_boot_block (S := blockToState b) (n := m) (rest := []) hi hc hf htb htk (by omega) (by simpa using htp)
  obtain ⟨hfinal, hdone⟩ := (hf q).finished
  rw [hc] at hfinal hdone
  obtain ⟨hkeep, hresult⟩ := hend q
  have hrun (j : ℕ) : Host.Core.run core (10 + n + j) s = Host.Core.run core (5 + j) t := by
    rw [show 10 + n + j = 5 + n + (5 + j) by omega, run_add ht]
  obtain ⟨herrBusy, herrIllegal, herrNoKey, -⟩ := errorRecord_eq_iff.mp (huerr.trans hterr)
  refine ⟨hkeyReads, fun j hj hjm => ?_, u, (hrun m).trans hu, hup, (congrArg State.busy he :).trans hfinal,
    (congrArg State.done he :).trans hdone, (congrArg State.keyValid he :).trans (hkeep.trans hk), ?_,
    herrBusy, herrIllegal, herrNoKey⟩
  · rw [hrun]
    exact hblockReads j hj hjm
  · rw [show u.state = (f q 11).state from (congrArg State.state he :), hresult, hstate, hw, htw,
      stateToBlock_blockToState, stateToBlock_blockToState]

end Sys2Proof.Machine
end

section
open Sys2Proof Sys2Proof.Machine

/-- Settles O59: each poll outlasts its command's steps, and ENCRYPT runs on the loaded block under the new schedule. -/
theorem bootOrderEncryptsTheBlock : Obligations.BootOrderEncryptsTheBlock := by
  unfold Obligations.BootOrderEncryptsTheBlock
  rw [show (0x00000002 : Word) = encode .encrypt by decide]
  refine bootOrderComputes rfl rfl commandRun_encrypt fun q => ?_
  rw [encryptAt_eleven]
  exact ⟨rfl, rfl⟩

/-- Settles O60: the same with DECRYPT. -/
theorem bootOrderDecryptsTheBlock : Obligations.BootOrderDecryptsTheBlock := by
  unfold Obligations.BootOrderDecryptsTheBlock
  rw [show (0x00000003 : Word) = encode .decrypt by decide]
  refine bootOrderComputes rfl rfl commandRun_decrypt fun q => ?_
  rw [decryptAt_eleven]
  exact ⟨rfl, rfl⟩
end
